-- ==== Sys2Proof/Word.lean ====
section
/-! DEFINITION. The value types of the block: bytes of the NAND image, 16-bit data words, 32-bit word
addresses (00_scope R6, 20_memory R60), and the plain-data memory with its canonical form. -/

namespace Sys2Proof

/-- A byte; bytes exist only inside the NAND image (20_memory R71). -/
abbrev Byte := BitVec 8

/-- A 16-bit data word; every register is 16 bits wide (00_scope R6). -/
abbrev Word := BitVec 16

/-- A 32-bit address naming one 16-bit word (00_scope R6, 20_memory R60). -/
abbrev Addr := BitVec 32

/-- A word-addressed memory held as the host's cells: the word at `a` is cell `2a` (bits 7:0) and cell
`2a + 1` (bits 15:8). Only the word view is reachable from the bus (DESIGN CHOICE, log 6). -/
abbrev Memory := List Host.Cell

/-- What a byte that no cell lists reads as (DESIGN CHOICE, log 7). -/
def Memory.blank : Byte := 0

/-- The canonical form: addresses strictly rising, no cell equal to what an unlisted byte reads as. -/
abbrev Memory.wf (m : Memory) : Prop :=
  m.Pairwise (fun c d => c.1 < d.1) ∧ ∀ c ∈ m, c.2 ≠ Memory.blank

/-- Every listed byte belongs to one of the first `size` words. -/
abbrev Memory.within (m : Memory) (size : Nat) : Prop := ∀ c ∈ m, c.1 < 2 * size

end Sys2Proof
end

