-- ==== Sys2Proof/Syntax.lean ====
section
/-! DEFINITION. The operations of the block: one constructor of `Instr` for each row of
spec/opcode_table.json, with the names its operands are made of. 30_encoding gives the formats. -/

namespace Sys2Proof

/-- The five chip-select regions (00_scope R7). -/
inductive CsIndex where
  | cs0 | cs1 | cs2 | cs3 | cs4
deriving DecidableEq, Repr

/-- The three DMA channels (00_scope R9). -/
inductive Channel where
  | ch0 | ch1 | ch2
deriving DecidableEq, Repr

/-- The seven parameter registers of a DMA channel, `k = 0..6` (30_encoding R104). -/
inductive DmaReg where
  | mode | srcLo | dstLo | lenLo | srcHi | dstHi | lenHi
deriving DecidableEq, Repr

/-- The registers of the system-register block (30_encoding R101). -/
inductive Reg where
  | banksw
  | cs (i : CsIndex)
  | nandCmd | nandAddrLo | nandAddrHi | nandData
  | dma (ch : Channel) (k : DmaReg)
  | dmaSrcType
  | dmaStatus
deriving DecidableEq, Repr

/-- What an address of the CPU AddressSpace selects (20_memory R62 and R63). -/
inductive Target where
  | video | audio
  | reg (r : Reg)
  | unhandled
  | iram | irom | direct | banked | unmapped
deriving DecidableEq, Repr

/-- The operations a DMA mode word selects (30_encoding R105). -/
inductive DmaOp where
  | nand8 | copy16 | copy16b | fill16 | unhandled
deriving DecidableEq, Repr

/-- What a word written to the trigger register selects (30_encoding R107). -/
inductive TrigOp where
  | channel (ch : Channel)
  | invalid
deriving DecidableEq, Repr

/-- What a data read does under a command byte (30_encoding R110). -/
inductive NandOp where
  | read | status | readId | unknown
deriving DecidableEq, Repr

/-- The operations, row by row of spec/opcode_table.json. `a` is the word address of a ranged bus access,
`v` the word written. -/
inductive Instr where
  -- format BUS
  /-- `BANKSW.R`, rule R151. -/
  | bankswR
  /-- `BANKSW.W`, rule R150. -/
  | bankswW (v : Word)
  /-- `CS0.R`, rule R131. -/
  | cs0R
  /-- `CS0.W`, rule R130. -/
  | cs0W (v : Word)
  /-- `CS1.R`, rule R131. -/
  | cs1R
  /-- `CS1.W`, rule R130. -/
  | cs1W (v : Word)
  /-- `CS2.R`, rule R131. -/
  | cs2R
  /-- `CS2.W`, rule R130. -/
  | cs2W (v : Word)
  /-- `CS3.R`, rule R131. -/
  | cs3R
  /-- `CS3.W`, rule R130. -/
  | cs3W (v : Word)
  /-- `CS4.R`, rule R131. -/
  | cs4R
  /-- `CS4.W`, rule R130. -/
  | cs4W (v : Word)
  /-- `NANDCMD.W`, rule R190. -/
  | nandcmdW (v : Word)
  /-- `NANDCMD.R`, rule R199. -/
  | nandcmdR
  /-- `NANDADRL.W`, rule R191. -/
  | nandadrlW (v : Word)
  /-- `NANDADRL.R`, rule R199. -/
  | nandadrlR
  /-- `NANDADRH.W`, rule R192. -/
  | nandadrhW (v : Word)
  /-- `NANDADRH.R`, rule R199. -/
  | nandadrhR
  /-- `NANDDATA.R`, rule R193. -/
  | nanddataR
  /-- `NANDDATA.W`, rule R199. -/
  | nanddataW (v : Word)
  /-- `DMA0_MODE.R`, rule R161. -/
  | dma0ModeR
  /-- `DMA0_MODE.W`, rule R160. -/
  | dma0ModeW (v : Word)
  /-- `DMA0_SRCLO.R`, rule R161. -/
  | dma0SrcloR
  /-- `DMA0_SRCLO.W`, rule R160. -/
  | dma0SrcloW (v : Word)
  /-- `DMA0_DSTLO.R`, rule R161. -/
  | dma0DstloR
  /-- `DMA0_DSTLO.W`, rule R160. -/
  | dma0DstloW (v : Word)
  /-- `DMA0_LENLO.R`, rule R161. -/
  | dma0LenloR
  /-- `DMA0_LENLO.W`, rule R160. -/
  | dma0LenloW (v : Word)
  /-- `DMA0_SRCHI.R`, rule R161. -/
  | dma0SrchiR
  /-- `DMA0_SRCHI.W`, rule R160. -/
  | dma0SrchiW (v : Word)
  /-- `DMA0_DSTHI.R`, rule R161. -/
  | dma0DsthiR
  /-- `DMA0_DSTHI.W`, rule R160. -/
  | dma0DsthiW (v : Word)
  /-- `DMA0_LENHI.R`, rule R161. -/
  | dma0LenhiR
  /-- `DMA0_LENHI.W`, rule R160. -/
  | dma0LenhiW (v : Word)
  /-- `DMA1_MODE.R`, rule R161. -/
  | dma1ModeR
  /-- `DMA1_MODE.W`, rule R160. -/
  | dma1ModeW (v : Word)
  /-- `DMA1_SRCLO.R`, rule R161. -/
  | dma1SrcloR
  /-- `DMA1_SRCLO.W`, rule R160. -/
  | dma1SrcloW (v : Word)
  /-- `DMA1_DSTLO.R`, rule R161. -/
  | dma1DstloR
  /-- `DMA1_DSTLO.W`, rule R160. -/
  | dma1DstloW (v : Word)
  /-- `DMA1_LENLO.R`, rule R161. -/
  | dma1LenloR
  /-- `DMA1_LENLO.W`, rule R160. -/
  | dma1LenloW (v : Word)
  /-- `DMA1_SRCHI.R`, rule R161. -/
  | dma1SrchiR
  /-- `DMA1_SRCHI.W`, rule R160. -/
  | dma1SrchiW (v : Word)
  /-- `DMA1_DSTHI.R`, rule R161. -/
  | dma1DsthiR
  /-- `DMA1_DSTHI.W`, rule R160. -/
  | dma1DsthiW (v : Word)
  /-- `DMA1_LENHI.R`, rule R161. -/
  | dma1LenhiR
  /-- `DMA1_LENHI.W`, rule R160. -/
  | dma1LenhiW (v : Word)
  /-- `DMA2_MODE.R`, rule R161. -/
  | dma2ModeR
  /-- `DMA2_MODE.W`, rule R160. -/
  | dma2ModeW (v : Word)
  /-- `DMA2_SRCLO.R`, rule R161. -/
  | dma2SrcloR
  /-- `DMA2_SRCLO.W`, rule R160. -/
  | dma2SrcloW (v : Word)
  /-- `DMA2_DSTLO.R`, rule R161. -/
  | dma2DstloR
  /-- `DMA2_DSTLO.W`, rule R160. -/
  | dma2DstloW (v : Word)
  /-- `DMA2_LENLO.R`, rule R161. -/
  | dma2LenloR
  /-- `DMA2_LENLO.W`, rule R160. -/
  | dma2LenloW (v : Word)
  /-- `DMA2_SRCHI.R`, rule R161. -/
  | dma2SrchiR
  /-- `DMA2_SRCHI.W`, rule R160. -/
  | dma2SrchiW (v : Word)
  /-- `DMA2_DSTHI.R`, rule R161. -/
  | dma2DsthiR
  /-- `DMA2_DSTHI.W`, rule R160. -/
  | dma2DsthiW (v : Word)
  /-- `DMA2_LENHI.R`, rule R161. -/
  | dma2LenhiR
  /-- `DMA2_LENHI.W`, rule R160. -/
  | dma2LenhiW (v : Word)
  /-- `DMASRCTYPE.R`, rule R162. -/
  | dmasrctypeR
  /-- `DMASRCTYPE.W`, rule R162. -/
  | dmasrctypeW (v : Word)
  /-- `DMASTATUS.R`, rule R163. -/
  | dmastatusR
  /-- `DMATRIG.W`, rule R165. -/
  | dmatrigW (v : Word)
  /-- `VIDEO.R`, rule R225. -/
  | videoR (a : Addr)
  /-- `VIDEO.W`, rule R225. -/
  | videoW (a : Addr) (v : Word)
  /-- `AUDIO.R`, rule R226. -/
  | audioR (a : Addr)
  /-- `AUDIO.W`, rule R226. -/
  | audioW (a : Addr) (v : Word)
  /-- `SYSREG.UNH.R`, rule R227. -/
  | sysregUnhR (a : Addr)
  /-- `SYSREG.UNH.W`, rule R228. -/
  | sysregUnhW (a : Addr) (v : Word)
  /-- `IRAM.R`, rule R67. -/
  | iramR (a : Addr)
  /-- `IRAM.W`, rule R67. -/
  | iramW (a : Addr) (v : Word)
  /-- `IROM.R`, rule R68. -/
  | iromR (a : Addr)
  /-- `IROM.W`, rule R68. -/
  | iromW (a : Addr) (v : Word)
  /-- `EXTWIN.R`, rule R69. -/
  | extwinR (a : Addr)
  /-- `EXTWIN.W`, rule R69. -/
  | extwinW (a : Addr) (v : Word)
  /-- `BANKWIN.R`, rule R153. -/
  | bankwinR (a : Addr)
  /-- `BANKWIN.W`, rule R154. -/
  | bankwinW (a : Addr) (v : Word)
  /-- `UNMAPPED.R`, rule R66. -/
  | unmappedR (a : Addr)
  /-- `UNMAPPED.W`, rule R66. -/
  | unmappedW (a : Addr) (v : Word)
  -- format DMAMODE
  /-- `DMA.NAND8`, rule R168. -/
  | dmaNand8 (ch : Channel)
  /-- `DMA.COPY16`, rule R169. -/
  | dmaCopy16 (ch : Channel)
  /-- `DMA.COPY16B`, rule R170. -/
  | dmaCopy16b (ch : Channel)
  /-- `DMA.FILL16`, rule R171. -/
  | dmaFill16 (ch : Channel)
  /-- `DMA.UNHANDLED`, rule R172. -/
  | dmaUnhandled (ch : Channel) (mode : Word)
  -- format TRIG
  /-- `TRIG.CH0`, rule R165. -/
  | trigCh0
  /-- `TRIG.CH1`, rule R165. -/
  | trigCh1
  /-- `TRIG.CH2`, rule R165. -/
  | trigCh2
  /-- `TRIG.INVALID`, rule R174. -/
  | trigInvalid (ordinal : Word)
  -- format NANDCMD
  /-- `NAND.READ`, rule R195. -/
  | nandRead
  /-- `NAND.STATUS`, rule R197. -/
  | nandStatus
  /-- `NAND.READID`, rule R194. -/
  | nandReadid
  /-- `NAND.UNKNOWN`, rule R198. -/
  | nandUnknown (byte : Byte)
  -- format EVENT
  /-- `RESET`, rule R261. -/
  | reset
  /-- `BOOTSTRAP.NAND`, rule R210. -/
  | bootstrapNand
deriving DecidableEq, Repr

/-- A selector word in one of the formats of 30_encoding R119, with the operand word its format carries. -/
inductive Code where
  /-- Format BUS (R100): the 33-bit selector `dir @ addr` and the data word. -/
  | bus (sel : BitVec 33) (data : Word)
  /-- Format DMAMODE (R105): the word `DMA[ch][0]`. -/
  | dmaMode (ch : Channel) (mode : Word)
  /-- Format TRIG (R107): the word written to the trigger register. -/
  | trig (ordinal : Word)
  /-- Format NANDCMD (R110): the byte in `NAND_CMD`. -/
  | nandCmd (byte : Byte)
  /-- Format EVENT: RESET. -/
  | reset
  /-- Format EVENT: BOOTSTRAP.NAND. -/
  | bootstrap
deriving DecidableEq, Repr

/-- One line of a program in the notation of 30_encoding R117: a bus access by the CPU, or `RESET`. -/
inductive Stimulus where
  | access (sel : BitVec 33) (data : Word)
  | reset
deriving DecidableEq, Repr

end Sys2Proof
end

