-- ==== Sys2Proof/Config.lean ====
section
/-! DEFINITION. The configuration record of 00_scope section 4: what the source or the spec fixes stands as
a constant, every OPEN parameter is a field. The record is plain data and stands in State (log 1), so a
statement about every state is a statement about every configuration. Values no one states are opaque. -/

namespace Sys2Proof

/-- `BOOT_SOURCE` (00_scope R2, R8), the "boot mode" discriminator of 10_state R38. -/
inductive BootSource where
  | internalMirror | nand | spi
deriving DecidableEq, Repr

/-- `ROM_TYPE`, three known variants (43_nand R194). -/
inductive RomType where
  | type0 | type1 | type2
deriving DecidableEq, Repr

/-- The external NAND image (10_state R34): absent, or a sequence of bytes whose continuation past its
end belongs to the provider (93 U9). -/
inductive NandImage where
  | absent
  | present (bytes : List Byte)
deriving DecidableEq, Repr

/-- The identifier bytes of each ROM type (43_nand R194); their values are OPEN (92 D18). -/
structure IdBytes where
  type0 : List Byte
  type1 : List Byte
  type2 : List Byte
deriving DecidableEq, Repr

/-- One access the block forwarded to a collaborator: a co-processor window (45_sysreg_misc R225, R226)
or a chip-select capability (00_scope R12). `a` is the address or the region offset. -/
inductive PortAccess where
  | read (a : Nat)
  | write (a : Nat) (v : Word)
deriving DecidableEq, Repr

/-- The configuration record (00_scope section 4): every parameter that is not fixed there. -/
structure Config where
  /-- `BOOT_SOURCE`. -/
  bootSource : BootSource
  /-- `ROM_TYPE`. -/
  romType : RomType
  /-- `EXT_WIN_END`, the last address of the direct window. -/
  extWinEnd : Addr
  /-- `BANK_WIN_BASE`. -/
  bankWinBase : Addr
  /-- `BANK_WIN_SIZE`, in words. -/
  bankWinSize : Nat
  /-- `IRAM_BASE`. -/
  iramBase : Addr
  /-- `IRAM_SIZE`, in words. -/
  iramSize : Nat
  /-- `IROM_BASE`. -/
  iromBase : Addr
  /-- `VECTOR_BASE`, the source's `V`. -/
  vectorBase : Word
  /-- `INITIAL_COPY_WORDS` (00_scope R10). -/
  initialCopyWords : Nat
  /-- `DMA_STATUS_VALUE` (42_dma R163). -/
  dmaStatus : Word
  /-- `NAND_ID`, as far as the configuration knows it. -/
  nandIds : IdBytes
  /-- `NandImage`. -/
  nandImage : NandImage
  /-- `IROM_IMAGE`, the mask ROM before the bootstrap patch. -/
  iromImage : Memory
deriving DecidableEq, Repr

namespace Config

/-- The NAND provider's byte past the end of a present image: a free value (log 8). -/
opaque nandPastEnd : Nat → Byte

/-- The identifier byte at a position the configuration gives no byte for: a free value (log 9). -/
opaque nandIdPastEnd : RomType → Nat → Byte

/-- The video co-processor's reply to a read, after the accesses it has seen: a free value (log 10). -/
opaque videoReply : List PortAccess → Nat → Word

/-- The audio co-processor's reply to a read, after the accesses it has seen: a free value (log 10). -/
opaque audioReply : List PortAccess → Nat → Word

/-- A general chip-select capability's reply to a read at a region offset, after the accesses it has
seen: a free value (log 11). -/
opaque csReply : CsIndex → List PortAccess → Nat → Word

/-- `SYSREG_BASE`. -/
def sysregBase : Nat := 0x7000
/-- `SYSREG_LAST`. -/
def sysregLast : Nat := 0x7FFF
/-- `VIDEO_WIN_LAST` (92 D35). -/
def videoWinLast : Nat := 0x7099
/-- `AUDIO_WIN_FIRST`. -/
def audioWinFirst : Nat := 0x7B80
/-- `CS_UNIT`, in words. -/
def csUnit : Nat := 0x10000
/-- `BANK_STRIDE`, in words (92 D5). -/
def bankStride : Nat := 0x200000
/-- `IROM_SIZE`, in words (10_state R32). -/
def iromSize : Nat := 0x8000

/-- `CS_BASE`: `0x30000` for the NAND variant, `0x20000` for the others (00_scope R7, 92 D45). -/
def csBase (c : Config) : Nat :=
  match c.bootSource with
  | .nand => 0x30000
  | .internalMirror => 0x20000
  | .spi => 0x20000

/-- `BANK_XLATE_BASE = CS_BASE` (92 D4). -/
def bankXlateBase (c : Config) : Nat := c.csBase

/-- The system-register block (20_memory R62, line 1). -/
def inSysreg (a : Nat) : Bool := decide (sysregBase ≤ a ∧ a ≤ sysregLast)
/-- Internal RAM (20_memory R62, line 2). -/
def inIram (c : Config) (a : Nat) : Bool :=
  decide (c.iramBase.toNat ≤ a ∧ a < c.iramBase.toNat + c.iramSize)
/-- Internal ROM (20_memory R62, line 3). -/
def inIrom (c : Config) (a : Nat) : Bool :=
  decide (c.iromBase.toNat ≤ a ∧ a < c.iromBase.toNat + iromSize)
/-- The direct external window (20_memory R62, line 4). -/
def inDirect (c : Config) (a : Nat) : Bool := decide (c.csBase ≤ a ∧ a ≤ c.extWinEnd.toNat)
/-- The banked window (20_memory R62, line 5). -/
def inBanked (c : Config) (a : Nat) : Bool :=
  decide (c.bankWinBase.toNat ≤ a ∧ a < c.bankWinBase.toNat + c.bankWinSize)

/-- The platform State.reset starts from: the NAND variant with the layout, vector base and status word
the spec records as remembered of this family (93 G1, G2, G4), an absent NAND image (44_bootstrap R217), no
identifier bytes and a blank mask ROM. PRESUMED and DESIGN CHOICE, log 2; no statement over all states
rests on it. -/
def reference : Config where
  bootSource := .nand
  romType := .type0
  extWinEnd := 0x1FFFFF
  bankWinBase := 0x200000
  bankWinSize := 0x100000
  iramBase := 0
  iramSize := 0x7000
  iromBase := 0x8000
  vectorBase := 0x6FE0
  initialCopyWords := 0x1000
  dmaStatus := 0x00FF
  nandIds := ⟨[], [], []⟩
  nandImage := .absent
  iromImage := []

end Config

end Sys2Proof
end

