-- ==== Sys2Proof/Machine/State.lean ====
section
/-! DEFINITION. The state of the machine: every register and memory of 10_state, the collaborators' stores
the bus reaches, the model-only FAULT and LOG, the configuration record, and the model's own two fields for
the bus interface (`input`, `readData`). Plain data; no field is a function. -/

namespace Sys2Proof.Machine

/-- Why the machine instance is halted (60_exceptions R242). -/
inductive Fault where
  /-- A word outside 1, 2, 3 was written to the trigger register (42_dma R174). Raised by the trigger
  write; answered by every later access until reset. Safe: silicon may go on (93 U4). -/
  | dmaBadTrigger (word : Word)
  /-- The DMA engine wrote the trigger register during its own transfer (42_dma R175). Raised by the
  transfer; answered by every later access until reset. Safe: silicon may go on (93 U5). -/
  | dmaNestedTrigger (word : Word)
deriving DecidableEq, Repr

/-- Why the model gives a step no meaning. -/
inductive Refusal where
  /-- An operation with no meaning yet; no operation of this model is left so. Safe. -/
  | notModelled (mnemonic : String)
  /-- Raised by `step` when the configuration breaks a constraint of 00_scope section 4 (R11, 92 D44).
  Safe. -/
  | badConfiguration
  /-- Raised by RESET and BOOTSTRAP.NAND when the boot block does not fit in internal RAM
  (44_bootstrap R219, 92 D21). Safe. -/
  | bootBlockOutsideRam
deriving DecidableEq, Repr

/-- The diagnostic events of 60_exceptions R241 with the values each records. -/
inductive Event where
  | unmapped (a : Addr) (data : Option Word)
  | csUnmapped (o : Nat) (data : Option Word)
  | bankNegative (o : Nat) (bank : Nat) (t : Int) (data : Option Word)
  | romWrite (a : Addr) (v : Word)
  | unhandledRegRead (a : Addr)
  | unhandledRegWrite (a : Addr) (v : Word)
  | dmaUnhandledMode (ch : Channel) (mode : Word) (src dst len : Nat)
  | nandUnknownCommand (byte : Byte)
deriving DecidableEq, Repr

/-- The engine's state machine (10_state R36, 42_dma R166). -/
inductive DmaPhase where
  | idle | triggered | copying
deriving DecidableEq, Repr

/-- One item for each of the five chip-select regions. -/
structure PerRegion (α : Type) where
  cs0 : α
  cs1 : α
  cs2 : α
  cs3 : α
  cs4 : α
deriving DecidableEq, Repr

/-- The item of region `i`. -/
def PerRegion.get {α : Type} (p : PerRegion α) : CsIndex → α
  | .cs0 => p.cs0
  | .cs1 => p.cs1
  | .cs2 => p.cs2
  | .cs3 => p.cs3
  | .cs4 => p.cs4

/-- The items with that of region `i` replaced. -/
def PerRegion.set {α : Type} (p : PerRegion α) (i : CsIndex) (x : α) : PerRegion α :=
  match i with
  | .cs0 => { p with cs0 := x }
  | .cs1 => { p with cs1 := x }
  | .cs2 => { p with cs2 := x }
  | .cs3 => { p with cs3 := x }
  | .cs4 => { p with cs4 := x }

/-- What backs a chip-select region (00_scope R12, 10_state R33): a read/write store, a store that ignores
writes (40_chipselect R139), or a capability of which nothing is assumed but that its reply is a function of
the accesses it has seen and the offset (log 11). -/
inductive Slot where
  | store (mem : Memory)
  | rom (mem : Memory)
  | device (seen : List PortAccess)
deriving DecidableEq, Repr

/-- The seven parameter registers of one DMA channel (10_state R28). -/
structure DmaParams where
  mode : Word
  srcLo : Word
  dstLo : Word
  lenLo : Word
  srcHi : Word
  dstHi : Word
  lenHi : Word
deriving DecidableEq, Repr

/-- All seven registers zero. -/
def DmaParams.zero : DmaParams := ⟨0, 0, 0, 0, 0, 0, 0⟩

/-- Register `k` of a channel. -/
def DmaParams.get (p : DmaParams) : DmaReg → Word
  | .mode => p.mode
  | .srcLo => p.srcLo
  | .dstLo => p.dstLo
  | .lenLo => p.lenLo
  | .srcHi => p.srcHi
  | .dstHi => p.dstHi
  | .lenHi => p.lenHi

/-- A channel with register `k` replaced. -/
def DmaParams.set (p : DmaParams) (k : DmaReg) (v : Word) : DmaParams :=
  match k with
  | .mode => { p with mode := v }
  | .srcLo => { p with srcLo := v }
  | .dstLo => { p with dstLo := v }
  | .lenLo => { p with lenLo := v }
  | .srcHi => { p with srcHi := v }
  | .dstHi => { p with dstHi := v }
  | .lenHi => { p with lenHi := v }

/-- The parameter registers of the three channels. -/
structure DmaRegs where
  ch0 : DmaParams
  ch1 : DmaParams
  ch2 : DmaParams
deriving DecidableEq, Repr

/-- The seven registers of channel `ch`. -/
def DmaRegs.params (d : DmaRegs) : Channel → DmaParams
  | .ch0 => d.ch0
  | .ch1 => d.ch1
  | .ch2 => d.ch2

/-- `DMA[ch][k]`. -/
def DmaRegs.get (d : DmaRegs) (ch : Channel) (k : DmaReg) : Word := (d.params ch).get k

/-- The registers with the seven of channel `ch` replaced. -/
def DmaRegs.setParams (d : DmaRegs) (ch : Channel) (p : DmaParams) : DmaRegs :=
  match ch with
  | .ch0 => { d with ch0 := p }
  | .ch1 => { d with ch1 := p }
  | .ch2 => { d with ch2 := p }

/-- The registers with `DMA[ch][k]` replaced. -/
def DmaRegs.set (d : DmaRegs) (ch : Channel) (k : DmaReg) (v : Word) : DmaRegs :=
  d.setParams ch ((d.params ch).set k v)

/-- The registers with channel `ch` zeroed (42_dma R173). -/
def DmaRegs.clear (d : DmaRegs) (ch : Channel) : DmaRegs := d.setParams ch .zero

/-- The machine. Each field names the rule of spec/10_state.md it comes from. -/
structure State where
  /-- The configuration record (00_scope section 4, R38); no operation changes it. -/
  cfg : Config
  /-- `BANKSW` (R23). -/
  banksw : Word
  /-- `CS[0..4]` (R24). -/
  cs : PerRegion Word
  /-- `NAND_CMD` (R25). -/
  nandCmd : Byte
  /-- `NAND_ADDR_LO` (R26). -/
  nandAddrLo : Word
  /-- `NAND_ADDR_HI` (R26). -/
  nandAddrHi : Word
  /-- `NAND_POS` (R27). -/
  nandPos : BitVec 32
  /-- `DMA[ch][k]` (R28). -/
  dma : DmaRegs
  /-- `DMA_SRCTYPE` (R29). -/
  dmaSrcType : Word
  /-- The engine's phase (R36). -/
  phase : DmaPhase
  /-- `IRAM`, by offset from `IRAM_BASE` (R31). -/
  iram : Memory
  /-- `IROM`, by offset (R32). -/
  irom : Memory
  /-- The chip-select backing stores (R33). -/
  slots : PerRegion Slot
  /-- The accesses delegated to the video co-processor, oldest first (45_sysreg_misc R225). -/
  video : List PortAccess
  /-- The accesses delegated to the audio co-processor, oldest first (45_sysreg_misc R226). -/
  audio : List PortAccess
  /-- `FAULT` (R37). -/
  fault : Option Fault
  /-- `LOG`, oldest first (R37). -/
  log : List Event
  /-- The CPU's entry point, the `pc` it leaves reset with (R21 c, 44_bootstrap R216). -/
  entryPc : Word
  /-- The model's own: the word the CPU's last read returned (30_encoding R100; log 4). -/
  readData : Word
  /-- The model's own: the stimuli the CPU will present, next one first (30_encoding R117; log 3). -/
  input : List Stimulus
deriving DecidableEq, Repr

namespace State

def setBanksw (s : State) (v : Word) : State := { s with banksw := v }

def setCs (s : State) (i : CsIndex) (v : Word) : State := { s with cs := s.cs.set i v }

def setNandCmd (s : State) (b : Byte) : State := { s with nandCmd := b }

def setNandAddrLo (s : State) (v : Word) : State := { s with nandAddrLo := v }

def setNandAddrHi (s : State) (v : Word) : State := { s with nandAddrHi := v }

def setNandPos (s : State) (p : BitVec 32) : State := { s with nandPos := p }

def setDma (s : State) (ch : Channel) (k : DmaReg) (v : Word) : State := { s with dma := s.dma.set ch k v }

def clearDma (s : State) (ch : Channel) : State := { s with dma := s.dma.clear ch }

def setDmaSrcType (s : State) (v : Word) : State := { s with dmaSrcType := v }

def setPhase (s : State) (p : DmaPhase) : State := { s with phase := p }

def setIram (s : State) (m : Memory) : State := { s with iram := m }

def setIrom (s : State) (m : Memory) : State := { s with irom := m }

def setSlot (s : State) (i : CsIndex) (x : Slot) : State := { s with slots := s.slots.set i x }

def setVideo (s : State) (h : List PortAccess) : State := { s with video := h }

def setAudio (s : State) (h : List PortAccess) : State := { s with audio := h }

def setFault (s : State) (r : Fault) : State := { s with fault := some r }

def addLog (s : State) (e : Event) : State := { s with log := s.log ++ [e] }

def setEntryPc (s : State) (v : Word) : State := { s with entryPc := v }

def setReadData (s : State) (v : Word) : State := { s with readData := v }

def setInput (s : State) (l : List Stimulus) : State := { s with input := l }

/-- The machine right after reset on the reference platform (10_state R40, 70_reset_and_hazards R261): every
register zero, the boot block of the absent image (zero words), the eleven vector words of 44_bootstrap R214
with `V = 0x6FE0` and `dest = 0`, no stimulus pending. `readData` is the vector the CPU has read. -/
def reset : State where
  cfg := Config.reference
  banksw := 0
  cs := ⟨0, 0, 0, 0, 0⟩
  nandCmd := 0
  nandAddrLo := 0
  nandAddrHi := 0
  nandPos := 0
  dma := ⟨.zero, .zero, .zero⟩
  dmaSrcType := 0
  phase := .idle
  iram := []
  irom :=
    [(0xFFEA, 0xEA), (0xFFEB, 0x6F), (0xFFEC, 0xEC), (0xFFED, 0x6F), (0xFFEE, 0x20),
     (0xFFF0, 0xF0), (0xFFF1, 0x6F), (0xFFF2, 0xF2), (0xFFF3, 0x6F), (0xFFF4, 0xF4), (0xFFF5, 0x6F),
     (0xFFF6, 0xF6), (0xFFF7, 0x6F), (0xFFF8, 0xF8), (0xFFF9, 0x6F), (0xFFFA, 0xFA), (0xFFFB, 0x6F),
     (0xFFFC, 0xFC), (0xFFFD, 0x6F), (0xFFFE, 0xFE), (0xFFFF, 0x6F)]
  slots := ⟨.store [], .store [], .store [], .store [], .store []⟩
  video := []
  audio := []
  fault := none
  log := []
  entryPc := 0x0020
  readData := 0x0020
  input := []

end State

end Sys2Proof.Machine
end

