-- ==== Sys2Proof/Machine/Flags.lean ====
section
/-! DEFINITION. The block has no condition codes and no status flag that an operation sets (10_state R22);
no flag is computed. The two constant status values a program can read, and the byte of an unknown NAND
command, stand here. -/

namespace Sys2Proof.Machine

/-- The ready mask at `0x7ABF`, constant (42_dma R163). -/
def dmaStatusWord (c : Config) : Word := c.dmaStatus

/-- The NAND status byte, all ones, constant (43_nand R197). -/
def nandReadyByte : Byte := 0xFF

/-- The byte of a data read under an unknown command, all ones (43_nand R198). -/
def nandUnknownByte : Byte := 0xFF

end Sys2Proof.Machine
end

