-- ==== Sys2Proof/Decode.lean ====
section
/-! DEFINITION. Decoding and encoding (30_encoding): the address decoder of 20_memory R62 and R63, the
selector tables of formats BUS, DMAMODE, TRIG and NANDCMD, their byte layout, and the encoder. -/

namespace Sys2Proof

/-! ## Register select (30_encoding R101, R104) -/

/-- The channel of stride number `n` of the DMA parameter blocks. -/
def Channel.ofStride (n : Nat) : Option Channel :=
  if n = 0 then some .ch0 else if n = 1 then some .ch1 else if n = 2 then some .ch2 else none

/-- The parameter register at place `k` of a channel's block; place 7 is no register (R104). -/
def DmaReg.ofPlace (k : Nat) : Option DmaReg :=
  if k = 0 then some .mode else if k = 1 then some .srcLo else if k = 2 then some .dstLo
  else if k = 3 then some .lenLo else if k = 4 then some .srcHi else if k = 5 then some .dstHi
  else if k = 6 then some .lenHi else none

/-- The register at distance `d` from `0x7A80`. -/
def dmaRegAt (d : Nat) : Option Reg :=
  match Channel.ofStride (d / 8), DmaReg.ofPlace (d % 8) with
  | some ch, some k => some (.dma ch k)
  | some _, none => none
  | none, _ => none

/-- The register at an address of the system-register block, if one stands there (R101). -/
def selectReg (a : Nat) : Option Reg :=
  if a < 0x7A80 then
    if a = 0x7810 then some .banksw
    else if a = 0x7820 then some (.cs .cs0)
    else if a = 0x7821 then some (.cs .cs1)
    else if a = 0x7822 then some (.cs .cs2)
    else if a = 0x7823 then some (.cs .cs3)
    else if a = 0x7824 then some (.cs .cs4)
    else if a = 0x7851 then some .nandCmd
    else if a = 0x7852 then some .nandAddrLo
    else if a = 0x7853 then some .nandAddrHi
    else if a = 0x7854 then some .nandData
    else none
  else if a = 0x7ABE then some .dmaSrcType
  else if a = 0x7ABF then some .dmaStatus
  else dmaRegAt (a - 0x7A80)

/-- Inside the system-register block, first match (20_memory R63). -/
def sysregTarget (a : Nat) : Target :=
  if a ≤ Config.videoWinLast then .video
  else if Config.audioWinFirst ≤ a then .audio
  else match selectReg a with
    | some r => .reg r
    | none => .unhandled

/-- The address map, first match (20_memory R62). -/
def busTarget (c : Config) (a : Addr) : Target :=
  if Config.inSysreg a.toNat then sysregTarget a.toNat
  else if c.inIram a.toNat then .iram
  else if c.inIrom a.toNat then .irom
  else if c.inDirect a.toNat then .direct
  else if c.inBanked a.toNat then .banked
  else .unmapped

/-! ## The selector tables -/

/-- DMA mode decode, by the whole word (42_dma R167, 30_encoding R105). -/
def dmaOp (mode : Word) : DmaOp :=
  if mode = 0x1089 then .nand8
  else if mode = 0x0009 then .copy16
  else if mode = 0x4009 then .copy16b
  else if mode = 0x0089 then .fill16
  else .unhandled

/-- Trigger decode, by the whole word (30_encoding R107). -/
def trigOp (ordinal : Word) : TrigOp :=
  if ordinal = 1 then .channel .ch0
  else if ordinal = 2 then .channel .ch1
  else if ordinal = 3 then .channel .ch2
  else .invalid

/-- NAND command decode (30_encoding R110). -/
def nandOp (byte : Byte) : NandOp :=
  if byte = 0x90 then .readId
  else if byte = 0x00 then .read
  else if byte = 0x70 then .status
  else .unknown

/-- The row of a DMA parameter read (42_dma R161). -/
def dmaReadInstr (ch : Channel) (k : DmaReg) : Instr :=
  match ch, k with
  | .ch0, .mode => .dma0ModeR
  | .ch0, .srcLo => .dma0SrcloR
  | .ch0, .dstLo => .dma0DstloR
  | .ch0, .lenLo => .dma0LenloR
  | .ch0, .srcHi => .dma0SrchiR
  | .ch0, .dstHi => .dma0DsthiR
  | .ch0, .lenHi => .dma0LenhiR
  | .ch1, .mode => .dma1ModeR
  | .ch1, .srcLo => .dma1SrcloR
  | .ch1, .dstLo => .dma1DstloR
  | .ch1, .lenLo => .dma1LenloR
  | .ch1, .srcHi => .dma1SrchiR
  | .ch1, .dstHi => .dma1DsthiR
  | .ch1, .lenHi => .dma1LenhiR
  | .ch2, .mode => .dma2ModeR
  | .ch2, .srcLo => .dma2SrcloR
  | .ch2, .dstLo => .dma2DstloR
  | .ch2, .lenLo => .dma2LenloR
  | .ch2, .srcHi => .dma2SrchiR
  | .ch2, .dstHi => .dma2DsthiR
  | .ch2, .lenHi => .dma2LenhiR

/-- The row of a DMA parameter write (42_dma R160). -/
def dmaWriteInstr (ch : Channel) (k : DmaReg) (v : Word) : Instr :=
  match ch, k with
  | .ch0, .mode => .dma0ModeW v
  | .ch0, .srcLo => .dma0SrcloW v
  | .ch0, .dstLo => .dma0DstloW v
  | .ch0, .lenLo => .dma0LenloW v
  | .ch0, .srcHi => .dma0SrchiW v
  | .ch0, .dstHi => .dma0DsthiW v
  | .ch0, .lenHi => .dma0LenhiW v
  | .ch1, .mode => .dma1ModeW v
  | .ch1, .srcLo => .dma1SrcloW v
  | .ch1, .dstLo => .dma1DstloW v
  | .ch1, .lenLo => .dma1LenloW v
  | .ch1, .srcHi => .dma1SrchiW v
  | .ch1, .dstHi => .dma1DsthiW v
  | .ch1, .lenHi => .dma1LenhiW v
  | .ch2, .mode => .dma2ModeW v
  | .ch2, .srcLo => .dma2SrcloW v
  | .ch2, .dstLo => .dma2DstloW v
  | .ch2, .lenLo => .dma2LenloW v
  | .ch2, .srcHi => .dma2SrchiW v
  | .ch2, .dstHi => .dma2DsthiW v
  | .ch2, .lenHi => .dma2LenhiW v

/-- The row of a read of a register (30_encoding R101, read column). -/
def regReadInstr : Reg → Instr
  | .banksw => .bankswR
  | .cs .cs0 => .cs0R
  | .cs .cs1 => .cs1R
  | .cs .cs2 => .cs2R
  | .cs .cs3 => .cs3R
  | .cs .cs4 => .cs4R
  | .nandCmd => .nandcmdR
  | .nandAddrLo => .nandadrlR
  | .nandAddrHi => .nandadrhR
  | .nandData => .nanddataR
  | .dma ch k => dmaReadInstr ch k
  | .dmaSrcType => .dmasrctypeR
  | .dmaStatus => .dmastatusR

/-- The row of a write to a register (30_encoding R101, write column). -/
def regWriteInstr (r : Reg) (v : Word) : Instr :=
  match r with
  | .banksw => .bankswW v
  | .cs .cs0 => .cs0W v
  | .cs .cs1 => .cs1W v
  | .cs .cs2 => .cs2W v
  | .cs .cs3 => .cs3W v
  | .cs .cs4 => .cs4W v
  | .nandCmd => .nandcmdW v
  | .nandAddrLo => .nandadrlW v
  | .nandAddrHi => .nandadrhW v
  | .nandData => .nanddataW v
  | .dma ch k => dmaWriteInstr ch k v
  | .dmaSrcType => .dmasrctypeW v
  | .dmaStatus => .dmatrigW v

/-- The row of a bus read of address `a` on target `t`. -/
def readInstr (t : Target) (a : Addr) : Instr :=
  match t with
  | .video => .videoR a
  | .audio => .audioR a
  | .reg r => regReadInstr r
  | .unhandled => .sysregUnhR a
  | .iram => .iramR a
  | .irom => .iromR a
  | .direct => .extwinR a
  | .banked => .bankwinR a
  | .unmapped => .unmappedR a

/-- The row of a bus write of `v` to address `a` on target `t`. -/
def writeInstr (t : Target) (a : Addr) (v : Word) : Instr :=
  match t with
  | .video => .videoW a v
  | .audio => .audioW a v
  | .reg r => regWriteInstr r v
  | .unhandled => .sysregUnhW a v
  | .iram => .iramW a v
  | .irom => .iromW a v
  | .direct => .extwinW a v
  | .banked => .bankwinW a v
  | .unmapped => .unmappedW a v

/-- The address part `B[31:0]` of a BUS selector (30_encoding R100). -/
def selAddr (sel : BitVec 33) : Addr := sel.extractLsb' 0 32

/-- The direction `B[32]` of a BUS selector: true for a write (30_encoding R100). -/
def selWrites (sel : BitVec 33) : Bool := sel.getLsbD 32

/-- The selector `dir @ addr` of a bus access (30_encoding R100). -/
def busSel (writes : Bool) (a : Addr) : BitVec 33 := BitVec.ofBool writes ++ a

/-- Format BUS: the operation of a selector; the data word counts for a write only. -/
def decodeBus (c : Config) (sel : BitVec 33) (data : Word) : Instr :=
  if selWrites sel then writeInstr (busTarget c (selAddr sel)) (selAddr sel) data
  else readInstr (busTarget c (selAddr sel)) (selAddr sel)

/-- Format DMAMODE. -/
def decodeDmaMode (ch : Channel) (mode : Word) : Instr :=
  match dmaOp mode with
  | .nand8 => .dmaNand8 ch
  | .copy16 => .dmaCopy16 ch
  | .copy16b => .dmaCopy16b ch
  | .fill16 => .dmaFill16 ch
  | .unhandled => .dmaUnhandled ch mode

/-- Format TRIG. -/
def decodeTrig (ordinal : Word) : Instr :=
  match trigOp ordinal with
  | .channel .ch0 => .trigCh0
  | .channel .ch1 => .trigCh1
  | .channel .ch2 => .trigCh2
  | .invalid => .trigInvalid ordinal

/-- Format NANDCMD. -/
def decodeNandCmd (byte : Byte) : Instr :=
  match nandOp byte with
  | .read => .nandRead
  | .status => .nandStatus
  | .readId => .nandReadid
  | .unknown => .nandUnknown byte

/-- The decoder over all formats of 30_encoding R119; every selector word has a row. -/
def decode (c : Config) : Code → Instr
  | .bus sel data => decodeBus c sel data
  | .dmaMode ch mode => decodeDmaMode ch mode
  | .trig ordinal => decodeTrig ordinal
  | .nandCmd byte => decodeNandCmd byte
  | .reset => .reset
  | .bootstrap => .bootstrapNand

/-- The selector word of a stimulus. -/
def Stimulus.code : Stimulus → Code
  | .access sel data => .bus sel data
  | .reset => .reset

/-- `RD a` (30_encoding R117). -/
def Stimulus.rd (a : Addr) : Stimulus := .access (busSel false a) 0

/-- `WR a, v` (30_encoding R117). -/
def Stimulus.wr (a : Addr) (v : Word) : Stimulus := .access (busSel true a) v

/-! ## The encoder -/

/-- The selector of a bus read. -/
def encRead (a : Addr) : Code := .bus (busSel false a) 0

/-- The selector and data word of a bus write. -/
def encWrite (a : Addr) (v : Word) : Code := .bus (busSel true a) v

/-- The selector word of an operation, from the addresses and values of 30_encoding R101, R105, R107 and
R110. -/
def encode : Instr → Code
  | .bankswR => encRead 0x7810
  | .bankswW v => encWrite 0x7810 v
  | .cs0R => encRead 0x7820
  | .cs0W v => encWrite 0x7820 v
  | .cs1R => encRead 0x7821
  | .cs1W v => encWrite 0x7821 v
  | .cs2R => encRead 0x7822
  | .cs2W v => encWrite 0x7822 v
  | .cs3R => encRead 0x7823
  | .cs3W v => encWrite 0x7823 v
  | .cs4R => encRead 0x7824
  | .cs4W v => encWrite 0x7824 v
  | .nandcmdW v => encWrite 0x7851 v
  | .nandcmdR => encRead 0x7851
  | .nandadrlW v => encWrite 0x7852 v
  | .nandadrlR => encRead 0x7852
  | .nandadrhW v => encWrite 0x7853 v
  | .nandadrhR => encRead 0x7853
  | .nanddataR => encRead 0x7854
  | .nanddataW v => encWrite 0x7854 v
  | .dma0ModeR => encRead 0x7A80
  | .dma0ModeW v => encWrite 0x7A80 v
  | .dma0SrcloR => encRead 0x7A81
  | .dma0SrcloW v => encWrite 0x7A81 v
  | .dma0DstloR => encRead 0x7A82
  | .dma0DstloW v => encWrite 0x7A82 v
  | .dma0LenloR => encRead 0x7A83
  | .dma0LenloW v => encWrite 0x7A83 v
  | .dma0SrchiR => encRead 0x7A84
  | .dma0SrchiW v => encWrite 0x7A84 v
  | .dma0DsthiR => encRead 0x7A85
  | .dma0DsthiW v => encWrite 0x7A85 v
  | .dma0LenhiR => encRead 0x7A86
  | .dma0LenhiW v => encWrite 0x7A86 v
  | .dma1ModeR => encRead 0x7A88
  | .dma1ModeW v => encWrite 0x7A88 v
  | .dma1SrcloR => encRead 0x7A89
  | .dma1SrcloW v => encWrite 0x7A89 v
  | .dma1DstloR => encRead 0x7A8A
  | .dma1DstloW v => encWrite 0x7A8A v
  | .dma1LenloR => encRead 0x7A8B
  | .dma1LenloW v => encWrite 0x7A8B v
  | .dma1SrchiR => encRead 0x7A8C
  | .dma1SrchiW v => encWrite 0x7A8C v
  | .dma1DsthiR => encRead 0x7A8D
  | .dma1DsthiW v => encWrite 0x7A8D v
  | .dma1LenhiR => encRead 0x7A8E
  | .dma1LenhiW v => encWrite 0x7A8E v
  | .dma2ModeR => encRead 0x7A90
  | .dma2ModeW v => encWrite 0x7A90 v
  | .dma2SrcloR => encRead 0x7A91
  | .dma2SrcloW v => encWrite 0x7A91 v
  | .dma2DstloR => encRead 0x7A92
  | .dma2DstloW v => encWrite 0x7A92 v
  | .dma2LenloR => encRead 0x7A93
  | .dma2LenloW v => encWrite 0x7A93 v
  | .dma2SrchiR => encRead 0x7A94
  | .dma2SrchiW v => encWrite 0x7A94 v
  | .dma2DsthiR => encRead 0x7A95
  | .dma2DsthiW v => encWrite 0x7A95 v
  | .dma2LenhiR => encRead 0x7A96
  | .dma2LenhiW v => encWrite 0x7A96 v
  | .dmasrctypeR => encRead 0x7ABE
  | .dmasrctypeW v => encWrite 0x7ABE v
  | .dmastatusR => encRead 0x7ABF
  | .dmatrigW v => encWrite 0x7ABF v
  | .videoR a => encRead a
  | .videoW a v => encWrite a v
  | .audioR a => encRead a
  | .audioW a v => encWrite a v
  | .sysregUnhR a => encRead a
  | .sysregUnhW a v => encWrite a v
  | .iramR a => encRead a
  | .iramW a v => encWrite a v
  | .iromR a => encRead a
  | .iromW a v => encWrite a v
  | .extwinR a => encRead a
  | .extwinW a v => encWrite a v
  | .bankwinR a => encRead a
  | .bankwinW a v => encWrite a v
  | .unmappedR a => encRead a
  | .unmappedW a v => encWrite a v
  | .dmaNand8 ch => .dmaMode ch 0x1089
  | .dmaCopy16 ch => .dmaMode ch 0x0009
  | .dmaCopy16b ch => .dmaMode ch 0x4009
  | .dmaFill16 ch => .dmaMode ch 0x0089
  | .dmaUnhandled ch mode => .dmaMode ch mode
  | .trigCh0 => .trig 0x0001
  | .trigCh1 => .trig 0x0002
  | .trigCh2 => .trig 0x0003
  | .trigInvalid ordinal => .trig ordinal
  | .nandRead => .nandCmd 0x00
  | .nandStatus => .nandCmd 0x70
  | .nandReadid => .nandCmd 0x90
  | .nandUnknown byte => .nandCmd byte
  | .reset => .reset
  | .bootstrapNand => .bootstrap

/-! ## Byte layout (DESIGN CHOICE, log 17)

A BUS access is seven bytes: the address, low byte first, the direction byte, the data word, low byte
first. TRIG and DMAMODE words are two bytes, low byte first; a NANDCMD is one byte; an event has none. -/

/-- The format of a byte string; it names the channel whose mode register a DMAMODE word stands in. -/
inductive Format where
  | bus
  | dmaMode (ch : Channel)
  | trig
  | nandCmd
  | reset
  | bootstrap
deriving DecidableEq, Repr

/-- Why a byte string is no selector word. -/
inductive Reject where
  /-- The string has not the number of bytes of its format. -/
  | length
  /-- A bit above `B[32]` of a BUS selector is set (R100 gives the selector 33 bits). -/
  | selectorBits
deriving DecidableEq, Repr

/-- The selector word in a byte string of a format, or why there is none. -/
def codeOfBytes : Format → List Byte → Except Reject Code
  | .bus, [a0, a1, a2, a3, k, d0, d1] =>
    if k = 0 then .ok (.bus (busSel false (a3 ++ a2 ++ a1 ++ a0)) (d1 ++ d0))
    else if k = 1 then .ok (.bus (busSel true (a3 ++ a2 ++ a1 ++ a0)) (d1 ++ d0))
    else .error .selectorBits
  | .bus, _ => .error .length
  | .dmaMode ch, [b0, b1] => .ok (.dmaMode ch (b1 ++ b0))
  | .dmaMode _, _ => .error .length
  | .trig, [b0, b1] => .ok (.trig (b1 ++ b0))
  | .trig, _ => .error .length
  | .nandCmd, [b] => .ok (.nandCmd b)
  | .nandCmd, _ => .error .length
  | .reset, [] => .ok .reset
  | .reset, _ => .error .length
  | .bootstrap, [] => .ok .bootstrap
  | .bootstrap, _ => .error .length

/-- The decoder over byte strings: total, rejecting by name. -/
def decodeBytes (c : Config) (f : Format) (bs : List Byte) : Except Reject Instr :=
  match codeOfBytes f bs with
  | .ok k => .ok (decode c k)
  | .error r => .error r

/-- The format of a selector word. -/
def Code.format : Code → Format
  | .bus _ _ => .bus
  | .dmaMode ch _ => .dmaMode ch
  | .trig _ => .trig
  | .nandCmd _ => .nandCmd
  | .reset => .reset
  | .bootstrap => .bootstrap

/-- The bytes of a selector word. -/
def Code.bytes : Code → List Byte
  | .bus sel data =>
    [sel.extractLsb' 0 8, sel.extractLsb' 8 8, sel.extractLsb' 16 8, sel.extractLsb' 24 8,
      if selWrites sel then 1 else 0, data.extractLsb' 0 8, data.extractLsb' 8 8]
  | .dmaMode _ mode => [mode.extractLsb' 0 8, mode.extractLsb' 8 8]
  | .trig ordinal => [ordinal.extractLsb' 0 8, ordinal.extractLsb' 8 8]
  | .nandCmd byte => [byte]
  | .reset => []
  | .bootstrap => []

/-! ## The table's numbering of bits -/

/-- How many bytes a format has. -/
def Format.length : Format → Nat
  | .bus => 7
  | .dmaMode _ => 2
  | .trig => 2
  | .nandCmd => 1
  | .reset => 0
  | .bootstrap => 0

/-- The `n` low bytes of `w`, lowest first. -/
def lowBytes : Nat → Nat → List Byte
  | 0, _ => []
  | n + 1, w => BitVec.ofNat 8 w :: lowBytes n (w / 256)

/-- The format of a table row of `nbits` bits whose selector is `w`. A 16-bit word that is one of the four
DMA mode words is read as `DMA[0][0]`, any other as a trigger word; an EVENT row has no selector bits
(log 16). -/
def tableFormat (nbits w : Nat) : Option Format :=
  if nbits < 8 then some .reset
  else if nbits = 8 then some .nandCmd
  else if nbits = 16 then
    match dmaOp (BitVec.ofNat 16 w) with
    | .unhandled => some .trig
    | .nand8 => some (.dmaMode .ch0)
    | .copy16 => some (.dmaMode .ch0)
    | .copy16b => some (.dmaMode .ch0)
    | .fill16 => some (.dmaMode .ch0)
  else if 33 ≤ nbits ∧ nbits ≤ 56 then some .bus
  else none

/-- The selector word of a table row's word, its missing high bits zero. -/
def tableCode (nbits w : Nat) : Option Code :=
  match tableFormat nbits w with
  | none => none
  | some f =>
    match codeOfBytes f (lowBytes f.length (w % 2 ^ nbits)) with
    | .ok k => some k
    | .error _ => none

/-- The operation the decoder reads from a table row's word on the reference platform. -/
def decodeTableWord (nbits w : Nat) : Option Instr :=
  (tableCode nbits w).map (decode Config.reference)

end Sys2Proof
end

