-- ==== Sys2Proof/Machine/Operands.lean ====
section
/-! DEFINITION. Operand assembly (30_encoding R106): every quantity the operations form from register bits,
and the byte order of the two places where bytes become words (20_memory R71). -/

namespace Sys2Proof.Machine

/-- Bits 7:0 of a word. -/
def lowByte (w : Word) : Byte := w.extractLsb' 0 8

/-- Bits 15:8 of a word. -/
def highByte (w : Word) : Byte := w.extractLsb' 8 8

/-- Two bytes as a word, the byte of the lower offset in bits 7:0 (20_memory R71). -/
def packBytes (lower upper : Byte) : Word := upper ++ lower

/-- A byte as a bus word, bits 15:8 zero (43_nand R196). -/
def byteWord (b : Byte) : Word := b.setWidth 16

/-- `size_i` of a chip-select control word, in words (40_chipselect R132). -/
def regionSize (control : Word) : Nat := ((highByte control).toNat + 1) * Config.csUnit

/-- The bank index `BANKSW[5:0]` (30_encoding R103). -/
def bankIndex (banksw : Word) : Nat := (banksw.extractLsb' 0 6).toNat

/-- The translation of the banked window, a signed integer (41_bankwindow R152). -/
def bankTranslate (c : Config) (banksw : Word) (o : Nat) : Int :=
  (o : Int) + (bankIndex banksw * Config.bankStride : Nat) - (c.bankXlateBase : Nat)

/-- A 28-bit DMA quantity from its two registers (42_dma R164). -/
def quantity28 (hi lo : Word) : Nat := ((hi ++ lo) &&& (0x0FFFFFFF : BitVec 32)).toNat

/-- The values a valid trigger latches (42_dma R164). -/
structure Transfer where
  mode : Word
  src : Nat
  dst : Nat
  len : Nat
deriving DecidableEq, Repr

/-- Parameter assembly of channel `ch` (42_dma R164). -/
def latch (d : DmaRegs) (ch : Channel) : Transfer where
  mode := d.get ch .mode
  src := quantity28 (d.get ch .srcHi) (d.get ch .srcLo)
  dst := quantity28 (d.get ch .dstHi) (d.get ch .dstLo)
  len := quantity28 (d.get ch .lenHi) (d.get ch .lenLo)

/-- The ordinal that triggers a channel (30_encoding R107). -/
def ordinalOf : Channel → Word
  | .ch0 => 1
  | .ch1 => 2
  | .ch2 => 3

/-- The byte offset of a NAND data read, exact (43_nand R195). -/
def nandOffset (hi lo : Word) (pos : BitVec 32) : Nat := (hi ++ lo : BitVec 32).toNat * 2 + pos.toNat

/-- The boot destination `page << 8` (44_bootstrap R212). -/
def bootDest (page : Byte) : Word := page ++ (0 : Byte)

end Sys2Proof.Machine
end

