-- ==== Sys2Proof/Machine/Ops.lean ====
section
/-! DEFINITION. The named operations every meaning is built from: memory, events and faults, the
chip-select and banked windows, the NAND sequencer, the registers, and the two bus primitives of
20_memory R64 and R65. A read answers the word and the state after it, since a read may change state. -/

namespace Sys2Proof

/-! ## Memory (log 6) -/

/-- The byte at byte address `a`; an unlisted one is blank. -/
def Memory.readByte : Memory → Nat → Byte
  | [], _ => Memory.blank
  | (k, b) :: rest, a => if k = a then b else Memory.readByte rest a

/-- The memory with byte `a` set, in canonical form: a blank byte is not listed. -/
def Memory.writeByte : Memory → Nat → Byte → Memory
  | [], a, b => if b = Memory.blank then [] else [(a, b)]
  | (k, c) :: rest, a, b =>
    if a < k then (if b = Memory.blank then (k, c) :: rest else (a, b) :: (k, c) :: rest)
    else if a = k then (if b = Memory.blank then rest else (a, b) :: rest)
    else (k, c) :: Memory.writeByte rest a b

/-- The word at word address `a`. -/
def Memory.readWord (m : Memory) (a : Nat) : Word :=
  Machine.packBytes (m.readByte (2 * a)) (m.readByte (2 * a + 1))

/-- The memory with word `a` set. -/
def Memory.writeWord (m : Memory) (a : Nat) (v : Word) : Memory :=
  (m.writeByte (2 * a) (Machine.lowByte v)).writeByte (2 * a + 1) (Machine.highByte v)

namespace Machine

/-! ## Events and faults (60_exceptions) -/

/-- `raise Fault(r)`: the marker is set, nothing else changes (60_exceptions R243). The one entry of every
fault; the block has no trap entry and no return but reset (R245). -/
def raise (r : Fault) (s : State) : State := s.setFault r

/-- Reset's part of leaving a fault: the marker and the log are cleared (70_reset_and_hazards R261). -/
def clearFault (s : State) : State := { s with fault := none, log := [] }

/-- A read by the CPU: refused while FAULT is set, else the word returned is kept in `readData`
(20_memory R64, 60_exceptions R243). -/
def cpuRead (f : State → Word × State) (s : State) : Host.Outcome State Fault Refusal :=
  match s.fault with
  | some r => .fault r
  | none => .next ((f s).2.setReadData (f s).1)

/-- A write by the CPU: refused while FAULT is set (20_memory R65, 60_exceptions R243). -/
def cpuWrite (f : State → State) (s : State) : Host.Outcome State Fault Refusal :=
  match s.fault with
  | some r => .fault r
  | none => .next (f s)

/-- The read of an address nothing answers: the zero word, the event logged (20_memory R66). -/
def defaultRead (e : Event) (s : State) : Word × State := (0, s.addLog e)

/-- The write to an address nothing answers: dropped, the event logged (20_memory R66). -/
def defaultWrite (e : Event) (s : State) : State := s.addLog e

/-! ## Chip-select space (40_chipselect) -/

/-- `size_i` (40_chipselect R132). -/
def csSize (cs : PerRegion Word) (i : CsIndex) : Nat := regionSize (cs.get i)

/-- `start_i`, the CS offset of region `i` (40_chipselect R132). -/
def csStart (cs : PerRegion Word) : CsIndex → Nat
  | .cs0 => 0
  | .cs1 => csSize cs .cs0
  | .cs2 => csSize cs .cs0 + csSize cs .cs1
  | .cs3 => csSize cs .cs0 + csSize cs .cs1 + csSize cs .cs2
  | .cs4 => csSize cs .cs0 + csSize cs .cs1 + csSize cs .cs2 + csSize cs .cs3

/-- `end_i`, exclusive (40_chipselect R132). -/
def csEnd (cs : PerRegion Word) (i : CsIndex) : Nat := csStart cs i + csSize cs i

/-- `total` (40_chipselect R132). -/
def csTotal (cs : PerRegion Word) : Nat := csEnd cs .cs4

/-- `CsLookup(o)`: the region and the region-relative offset (40_chipselect R134). -/
def csLookup (cs : PerRegion Word) (o : Nat) : Option (CsIndex × Nat) :=
  if o < csEnd cs .cs0 then some (.cs0, o - csStart cs .cs0)
  else if o < csEnd cs .cs1 then some (.cs1, o - csStart cs .cs1)
  else if o < csEnd cs .cs2 then some (.cs2, o - csStart cs .cs2)
  else if o < csEnd cs .cs3 then some (.cs3, o - csStart cs .cs3)
  else if o < csEnd cs .cs4 then some (.cs4, o - csStart cs .cs4)
  else none

/-- `CsRead[i](r)` (00_scope R12). -/
def slotRead (i : CsIndex) (r : Nat) (s : State) : Word × State :=
  match s.slots.get i with
  | .store m => (m.readWord r, s)
  | .rom m => (m.readWord r, s)
  | .device seen => (Config.csReply i seen r, s.setSlot i (.device (seen ++ [.read r])))

/-- `CsWrite[i](r, v)` (00_scope R12). -/
def slotWrite (i : CsIndex) (r : Nat) (v : Word) (s : State) : State :=
  match s.slots.get i with
  | .store m => s.setSlot i (.store (m.writeWord r v))
  | .rom _ => s
  | .device seen => s.setSlot i (.device (seen ++ [.write r v]))

/-- The read at what a lookup of `o` found (40_chipselect R137, R138). -/
def csReadAt (o : Nat) (found : Option (CsIndex × Nat)) (s : State) : Word × State :=
  match found with
  | some (i, r) => slotRead i r s
  | none => defaultRead (.csUnmapped o none) s

/-- The write at what a lookup of `o` found (40_chipselect R137, R139). -/
def csWriteAt (o : Nat) (v : Word) (found : Option (CsIndex × Nat)) (s : State) : State :=
  match found with
  | some (i, r) => slotWrite i r v s
  | none => defaultWrite (.csUnmapped o (some v)) s

/-- `CsSpaceRead(o)` (40_chipselect R138). -/
def csSpaceRead (o : Nat) (s : State) : Word × State := csReadAt o (csLookup s.cs o) s

/-- `CsSpaceWrite(o, v)` (40_chipselect R139). -/
def csSpaceWrite (o : Nat) (v : Word) (s : State) : State := csWriteAt o v (csLookup s.cs o) s

/-- `BankRead(o)` (41_bankwindow R153). -/
def bankRead (o : Nat) (s : State) : Word × State :=
  match bankTranslate s.cfg s.banksw o with
  | .ofNat t => csSpaceRead t s
  | .negSucc n => defaultRead (.bankNegative o (bankIndex s.banksw) (.negSucc n) none) s

/-- `BankWrite(o, v)` (41_bankwindow R154). -/
def bankWrite (o : Nat) (v : Word) (s : State) : State :=
  match bankTranslate s.cfg s.banksw o with
  | .ofNat t => csSpaceWrite t v s
  | .negSucc n => defaultWrite (.bankNegative o (bankIndex s.banksw) (.negSucc n) (some v)) s

/-! ## The NAND sequencer (43_nand) -/

/-- A listed byte, or the given one past the list's end. -/
def byteAt : List Byte → Nat → Byte → Byte
  | [], _, past => past
  | b :: _, 0, _ => b
  | _ :: rest, n + 1, past => byteAt rest n past

/-- `NandImage(n)`: an absent image reads zero (44_bootstrap R217), a present one its byte, past its end
the provider's (93 U9, a free value). -/
def imageByte (c : Config) (n : Nat) : Byte :=
  match c.nandImage with
  | .absent => 0
  | .present bytes => byteAt bytes n (Config.nandPastEnd n)

/-- The identifier bytes of the configured ROM type. -/
def idBytes (c : Config) : List Byte :=
  match c.romType with
  | .type0 => c.nandIds.type0
  | .type1 => c.nandIds.type1
  | .type2 => c.nandIds.type2

/-- `NAND_ID(ROM_TYPE, n)` (43_nand R194); past the configured bytes a free value. -/
def idByte (c : Config) (n : Nat) : Byte := byteAt (idBytes c) n (Config.nandIdPastEnd c.romType n)

/-- A data read that delivers `b`: the position advances whatever the command (43_nand R196). -/
def nandDeliver (b : Byte) (s : State) : Word × State := (byteWord b, s.setNandPos (s.nandPos + 1))

/-- The data read under command `0x00` (43_nand R195). -/
def nandReadImage (s : State) : Word × State :=
  nandDeliver (imageByte s.cfg (nandOffset s.nandAddrHi s.nandAddrLo s.nandPos)) s

/-- The data read under command `0x70` (43_nand R197). -/
def nandReadStatus (s : State) : Word × State := nandDeliver nandReadyByte s

/-- The data read under command `0x90` (43_nand R194). -/
def nandReadId (s : State) : Word × State := nandDeliver (idByte s.cfg s.nandPos.toNat) s

/-- The data read under any other command (43_nand R198). -/
def nandReadUnknown (byte : Byte) (s : State) : Word × State :=
  nandDeliver nandUnknownByte (s.addLog (.nandUnknownCommand byte))

/-- `NandDataRead()` (43_nand R196). -/
def nandDataRead (s : State) : Word × State :=
  match nandOp s.nandCmd with
  | .readId => nandReadId s
  | .read => nandReadImage s
  | .status => nandReadStatus s
  | .unknown => nandReadUnknown s.nandCmd s

/-- The command write (43_nand R190). -/
def writeNandCmd (v : Word) (s : State) : State := s.setNandCmd (lowByte v)

/-- The low address write; it rewinds (43_nand R191). -/
def writeNandAddrLo (v : Word) (s : State) : State := (s.setNandAddrLo v).setNandPos 0

/-- The high address write; it rewinds (43_nand R192). -/
def writeNandAddrHi (v : Word) (s : State) : State := (s.setNandAddrHi v).setNandPos 0

/-! ## Registers and delegated windows -/

/-- A register that reads as what it holds. -/
def plainRead (v : Word) (s : State) : Word × State := (v, s)

/-- The read of an unlisted or write-only address (45_sysreg_misc R227, 43_nand R199). -/
def unhandledRead (a : Addr) (s : State) : Word × State := defaultRead (.unhandledRegRead a) s

/-- The write of an unlisted or read-only address (45_sysreg_misc R228, 43_nand R199). -/
def unhandledWrite (a : Addr) (v : Word) (s : State) : State := defaultWrite (.unhandledRegWrite a v) s

/-- `VideoPort.read(a)` (45_sysreg_misc R225). -/
def videoRead (a : Addr) (s : State) : Word × State :=
  (Config.videoReply s.video a.toNat, s.setVideo (s.video ++ [.read a.toNat]))

/-- `VideoPort.write(a, v)` (45_sysreg_misc R225). -/
def videoWrite (a : Addr) (v : Word) (s : State) : State := s.setVideo (s.video ++ [.write a.toNat v])

/-- `AudioPort.read(a)` (45_sysreg_misc R226). -/
def audioRead (a : Addr) (s : State) : Word × State :=
  (Config.audioReply s.audio a.toNat, s.setAudio (s.audio ++ [.read a.toNat]))

/-- `AudioPort.write(a, v)` (45_sysreg_misc R226). -/
def audioWrite (a : Addr) (v : Word) (s : State) : State := s.setAudio (s.audio ++ [.write a.toNat v])

/-- The read rule of a register (30_encoding R101, read column). -/
def regRead (r : Reg) (a : Addr) (s : State) : Word × State :=
  match r with
  | .banksw => plainRead s.banksw s
  | .cs i => plainRead (s.cs.get i) s
  | .nandCmd => unhandledRead a s
  | .nandAddrLo => unhandledRead a s
  | .nandAddrHi => unhandledRead a s
  | .nandData => nandDataRead s
  | .dma ch k => plainRead (s.dma.get ch k) s
  | .dmaSrcType => plainRead s.dmaSrcType s
  | .dmaStatus => plainRead (dmaStatusWord s.cfg) s

/-- The write rule of a register (30_encoding R101, write column); `trig` is what a word written to the
trigger register does. -/
def regWrite (trig : Word → State → State) (r : Reg) (a : Addr) (v : Word) (s : State) : State :=
  match r with
  | .banksw => s.setBanksw v
  | .cs i => s.setCs i v
  | .nandCmd => writeNandCmd v s
  | .nandAddrLo => writeNandAddrLo v s
  | .nandAddrHi => writeNandAddrHi v s
  | .nandData => unhandledWrite a v s
  | .dma ch k => s.setDma ch k v
  | .dmaSrcType => s.setDmaSrcType v
  | .dmaStatus => trig v s

/-! ## Memory regions (20_memory R66 to R70) -/

/-- Internal RAM read (20_memory R67). -/
def iramRead (a : Addr) (s : State) : Word × State :=
  (s.iram.readWord (a.toNat - s.cfg.iramBase.toNat), s)

/-- Internal RAM write (20_memory R67). -/
def iramWrite (a : Addr) (v : Word) (s : State) : State :=
  s.setIram (s.iram.writeWord (a.toNat - s.cfg.iramBase.toNat) v)

/-- Internal ROM read (20_memory R68). -/
def iromRead (a : Addr) (s : State) : Word × State :=
  (s.irom.readWord (a.toNat - s.cfg.iromBase.toNat), s)

/-- Internal ROM write: dropped (20_memory R68). -/
def iromWrite (a : Addr) (v : Word) (s : State) : State := defaultWrite (.romWrite a v) s

/-- Direct window read (20_memory R69). -/
def directRead (a : Addr) (s : State) : Word × State := csSpaceRead (a.toNat - s.cfg.csBase) s

/-- Direct window write (20_memory R69). -/
def directWrite (a : Addr) (v : Word) (s : State) : State := csSpaceWrite (a.toNat - s.cfg.csBase) v s

/-- Banked window read (20_memory R70). -/
def bankedRead (a : Addr) (s : State) : Word × State := bankRead (a.toNat - s.cfg.bankWinBase.toNat) s

/-- Banked window write (20_memory R70). -/
def bankedWrite (a : Addr) (v : Word) (s : State) : State :=
  bankWrite (a.toNat - s.cfg.bankWinBase.toNat) v s

/-- The read of an unmapped address (20_memory R66). -/
def unmappedRead (a : Addr) (s : State) : Word × State := defaultRead (.unmapped a none) s

/-- The write of an unmapped address (20_memory R66). -/
def unmappedWrite (a : Addr) (v : Word) (s : State) : State := defaultWrite (.unmapped a (some v)) s

/-! ## The bus primitives -/

/-- `BusRead(a)` after its FAULT test (20_memory R64). -/
def busRead (a : Addr) (s : State) : Word × State :=
  match busTarget s.cfg a with
  | .video => videoRead a s
  | .audio => audioRead a s
  | .reg r => regRead r a s
  | .unhandled => unhandledRead a s
  | .iram => iramRead a s
  | .irom => iromRead a s
  | .direct => directRead a s
  | .banked => bankedRead a s
  | .unmapped => unmappedRead a s

/-- `BusWrite(a, v)` after its FAULT test (20_memory R65), with `trig` for a write of the trigger register,
the one target on which the two initiators differ (42_dma R165, R175). -/
def busWriteWith (trig : Word → State → State) (a : Addr) (v : Word) (s : State) : State :=
  match busTarget s.cfg a with
  | .video => videoWrite a v s
  | .audio => audioWrite a v s
  | .reg r => regWrite trig r a v s
  | .unhandled => unhandledWrite a v s
  | .iram => iramWrite a v s
  | .irom => iromWrite a v s
  | .direct => directWrite a v s
  | .banked => bankedWrite a v s
  | .unmapped => unmappedWrite a v s

end Machine

end Sys2Proof
end

