-- ==== Sys2Proof/Machine/BankWindow.lean ====
section
/-! DEFINITION. The bank-switch register and the banked window (41_bankwindow). -/

namespace Sys2Proof.Machine

/-- `BANKSW.R` (41_bankwindow R151). -/
def execBankswR : State → Host.Outcome State Fault Refusal := cpuRead fun s => plainRead s.banksw s

/-- `BANKSW.W` (41_bankwindow R150). -/
def execBankswW (v : Word) : State → Host.Outcome State Fault Refusal := cpuWrite fun s => s.setBanksw v

/-- `BANKWIN.R` (41_bankwindow R153). -/
def execBankwinR (a : Addr) : State → Host.Outcome State Fault Refusal := cpuRead (bankedRead a)

/-- `BANKWIN.W` (41_bankwindow R154). -/
def execBankwinW (a : Addr) (v : Word) : State → Host.Outcome State Fault Refusal := cpuWrite (bankedWrite a v)

end Sys2Proof.Machine
end

