-- ==== Sys2Proof/Machine/Bootstrap.lean ====
section
/-! DEFINITION. Reset and the NAND bootstrap (70_reset_and_hazards R261, 44_bootstrap). -/

namespace Sys2Proof.Machine

/-- `page`, header byte `0x15` (44_bootstrap R211). -/
def bootPage (c : Config) : Byte := imageByte c 0x15

/-- `dest` (44_bootstrap R212). -/
def bootDestOf (c : Config) : Word := bootDest (bootPage c)

/-- The boot block lies inside internal RAM (44_bootstrap R219). -/
def bootFits (c : Config) : Bool :=
  decide (c.iramBase.toNat ≤ (bootDestOf c).toNat ∧
    (bootDestOf c).toNat + c.initialCopyWords ≤ c.iramBase.toNat + c.iramSize)

/-- Word `i` of the boot block: image bytes `2i` and `2i + 1` (44_bootstrap R213). -/
def bootWord (c : Config) (i : Nat) : Word := packBytes (imageByte c (2 * i)) (imageByte c (2 * i + 1))

/-- The first `n` words of the boot block, copied to offset `base` of a memory (44_bootstrap R213). -/
def copyBoot (c : Config) (base : Nat) : Nat → Memory → Memory
  | 0, m => m
  | n + 1, m => (copyBoot c base n m).writeWord (base + n) (bootWord c n)

/-- The value of vector slot `k` (44_bootstrap R214, R215). -/
def vectorWord (c : Config) (k : Nat) : Word :=
  if k = 2 then bootDestOf c + 0x20 else c.vectorBase + 0x0A + BitVec.ofNat 16 (2 * k)

/-- The IROM offset of vector slot 0 (30_encoding R114). -/
def vectorSlot0 : Nat := 0x7FF5

/-- The first `n` vector slots patched (44_bootstrap R214). -/
def patchVectors (c : Config) : Nat → Memory → Memory
  | 0, m => m
  | n + 1, m => (patchVectors c n m).writeWord (vectorSlot0 + n) (vectorWord c n)

/-- The NAND bootstrap, indivisible: the copy and the eleven vectors, nothing else (44_bootstrap R210,
R218). -/
def bootstrap (s : State) : State :=
  (s.setIram (copyBoot s.cfg ((bootDestOf s.cfg).toNat - s.cfg.iramBase.toNat)
    s.cfg.initialCopyWords s.iram)).setIrom (patchVectors s.cfg 11 s.irom)

/-- Steps 1, 2 and the first line of step 4 of RESET: FAULT and LOG cleared, every register at its reset
value, the internal ROM at its image (70_reset_and_hazards R261, 10_state R40). Whether a reset reaches the two
co-processors neither rule says; that their histories stay is the model's DESIGN CHOICE (log 26), and so is that of the
pending stimuli, the model's own field (log 3). -/
def resetRegisters (s : State) : State :=
  { clearFault s with
    banksw := 0
    cs := ⟨0, 0, 0, 0, 0⟩
    nandCmd := 0
    nandAddrLo := 0
    nandAddrHi := 0
    nandPos := 0
    dma := ⟨.zero, .zero, .zero⟩
    dmaSrcType := 0
    phase := .idle
    irom := s.cfg.iromImage }

/-- Step 5 of RESET: the CPU reads its vector at IROM offset `0x7FF7` and enters there
(70_reset_and_hazards R261, 44_bootstrap R216). -/
def leaveReset (s : State) : State :=
  (s.setEntryPc (s.irom.readWord 0x7FF7)).setReadData (s.irom.readWord 0x7FF7)

/-- `BOOTSTRAP.NAND`; without meaning when the block does not fit (44_bootstrap R210, R219). -/
def execBootstrapNand (s : State) : Host.Outcome State Fault Refusal :=
  if bootFits s.cfg then .next (bootstrap s) else .refused .bootBlockOutsideRam

/-- `RESET`; the boot sources other than NAND place nothing (70_reset_and_hazards R261, 44_bootstrap
R220). -/
def execReset (s : State) : Host.Outcome State Fault Refusal :=
  match s.cfg.bootSource with
  | .nand =>
    if bootFits s.cfg then .next (leaveReset (bootstrap (resetRegisters s)))
    else .refused .bootBlockOutsideRam
  | .internalMirror => .next (leaveReset (resetRegisters s))
  | .spi => .next (leaveReset (resetRegisters s))

end Sys2Proof.Machine
end

