-- ==== Sys2Proof/Machine/ChipSelect.lean ====
section
/-! DEFINITION. The chip-select control registers (40_chipselect R130, R131). The layout is no state: `csLookup`
computes it from the registers at every access (10_state R35). -/

namespace Sys2Proof.Machine

/-- `CS0.R` (40_chipselect R131). -/
def execCs0R : State → Host.Outcome State Fault Refusal :=
  cpuRead fun s => plainRead (s.cs.get .cs0) s

/-- `CS0.W`; the layout follows from the registers (40_chipselect R130). -/
def execCs0W (v : Word) : State → Host.Outcome State Fault Refusal :=
  cpuWrite fun s => s.setCs .cs0 v

/-- `CS1.R` (40_chipselect R131). -/
def execCs1R : State → Host.Outcome State Fault Refusal :=
  cpuRead fun s => plainRead (s.cs.get .cs1) s

/-- `CS1.W`; the layout follows from the registers (40_chipselect R130). -/
def execCs1W (v : Word) : State → Host.Outcome State Fault Refusal :=
  cpuWrite fun s => s.setCs .cs1 v

/-- `CS2.R` (40_chipselect R131). -/
def execCs2R : State → Host.Outcome State Fault Refusal :=
  cpuRead fun s => plainRead (s.cs.get .cs2) s

/-- `CS2.W`; the layout follows from the registers (40_chipselect R130). -/
def execCs2W (v : Word) : State → Host.Outcome State Fault Refusal :=
  cpuWrite fun s => s.setCs .cs2 v

/-- `CS3.R` (40_chipselect R131). -/
def execCs3R : State → Host.Outcome State Fault Refusal :=
  cpuRead fun s => plainRead (s.cs.get .cs3) s

/-- `CS3.W`; the layout follows from the registers (40_chipselect R130). -/
def execCs3W (v : Word) : State → Host.Outcome State Fault Refusal :=
  cpuWrite fun s => s.setCs .cs3 v

/-- `CS4.R` (40_chipselect R131). -/
def execCs4R : State → Host.Outcome State Fault Refusal :=
  cpuRead fun s => plainRead (s.cs.get .cs4) s

/-- `CS4.W`; the layout follows from the registers (40_chipselect R130). -/
def execCs4W (v : Word) : State → Host.Outcome State Fault Refusal :=
  cpuWrite fun s => s.setCs .cs4 v

end Sys2Proof.Machine
end

