-- ==== Sys2Proof/Machine/Dma.lean ====
section
/-! DEFINITION. The system DMA engine (42_dma): its transfers, the trigger, and the meanings of the rows of
formats TRIG and DMAMODE and of the DMA registers. -/

namespace Sys2Proof.Machine

/-! ## The engine -/

/-- A write by the engine: the ordinary bus write, a trigger refused (42_dma R175, R176). -/
def engineWrite (a : Addr) (v : Word) (s : State) : State :=
  busWriteWith (fun d t => raise (.dmaNestedTrigger d) t) a v s

/-- The loop of DMA.NAND8: two bytes from the sequencer, one word to the bus (42_dma R168). A fault ends
it where it is (60_exceptions R243). -/
def nandLoop : Nat → Nat → State → State
  | 0, _, s => s
  | n + 1, dst, s =>
    match s.fault with
    | some _ => s
    | none =>
      let p := nandDataRead s
      let q := nandDataRead p.2
      nandLoop n (dst + 1) (engineWrite (BitVec.ofNat 32 dst) (packBytes (lowByte p.1) (lowByte q.1)) q.2)

/-- The loop of the 16-bit modes: one read, one write; the source advances by `step` (42_dma R169 to
R171). -/
def wordLoop (step : Nat) : Nat → Nat → Nat → State → State
  | 0, _, _, s => s
  | n + 1, src, dst, s =>
    match s.fault with
    | some _ => s
    | none =>
      let p := busRead (BitVec.ofNat 32 src) s
      wordLoop step n (src + step) (dst + 1) (engineWrite (BitVec.ofNat 32 dst) p.1 p.2)

/-- One run of the engine on channel `ch`: Copying, the transfer of the latched parameters, the auto-clear
unless a fault ended it, Idle (42_dma R165, R166, R173; 60_exceptions R243). -/
def engineRun (ch : Channel) (body : Transfer → State → State) (s : State) : State :=
  let t := body (latch s.dma ch) (s.setPhase .copying)
  match t.fault with
  | some _ => t.setPhase .idle
  | none => (t.clearDma ch).setPhase .idle

/-- DMA.NAND8 on channel `ch` (42_dma R168). -/
def runNand8 (ch : Channel) : State → State := engineRun ch fun x => nandLoop (x.len / 2) x.dst

/-- DMA.COPY16 on channel `ch` (42_dma R169). -/
def runCopy16 (ch : Channel) : State → State := engineRun ch fun x => wordLoop 1 x.len x.src x.dst

/-- DMA.COPY16B on channel `ch` (42_dma R170). -/
def runCopy16b (ch : Channel) : State → State := engineRun ch fun x => wordLoop 1 x.len x.src x.dst

/-- DMA.FILL16 on channel `ch` (42_dma R171). -/
def runFill16 (ch : Channel) : State → State := engineRun ch fun x => wordLoop 0 x.len x.src x.dst

/-- DMA.UNHANDLED on channel `ch` with the mode word `mode` (42_dma R172). -/
def runUnhandled (ch : Channel) (mode : Word) : State → State :=
  engineRun ch fun x s => s.addLog (.dmaUnhandledMode ch mode x.src x.dst x.len)

/-- The nested-trigger test before everything else (42_dma R165, 60_exceptions R244). -/
def whenIdle (d : Word) (f : State → State) (s : State) : State :=
  match s.phase with
  | .idle => f s
  | .triggered => raise (.dmaNestedTrigger d) s
  | .copying => raise (.dmaNestedTrigger d) s

/-- A valid trigger of channel `ch`: Triggered, then the mode its mode word selects (42_dma R165, R167). -/
def runChannel (ch : Channel) (s : State) : State :=
  let t := s.setPhase .triggered
  match dmaOp (s.dma.get ch .mode) with
  | .nand8 => runNand8 ch t
  | .copy16 => runCopy16 ch t
  | .copy16b => runCopy16b ch t
  | .fill16 => runFill16 ch t
  | .unhandled => runUnhandled ch (s.dma.get ch .mode) t

/-- The write of `d` to the trigger register (42_dma R165, R174, R175). -/
def triggerWrite (d : Word) : State → State :=
  whenIdle d fun s =>
    match trigOp d with
    | .channel ch => runChannel ch s
    | .invalid => raise (.dmaBadTrigger d) s

/-- `BusWrite(a, v)` by the CPU after its FAULT test (20_memory R65). -/
def busWrite (a : Addr) (v : Word) (s : State) : State := busWriteWith triggerWrite a v s

/-! ## Formats TRIG and DMAMODE -/

/-- `TRIG.CH0`: the trigger write of ordinal 1 (42_dma R165). -/
def execTrigCh0 : State → Host.Outcome State Fault Refusal := cpuWrite (whenIdle 1 (runChannel .ch0))

/-- `TRIG.CH1`: the trigger write of ordinal 2 (42_dma R165). -/
def execTrigCh1 : State → Host.Outcome State Fault Refusal := cpuWrite (whenIdle 2 (runChannel .ch1))

/-- `TRIG.CH2`: the trigger write of ordinal 3 (42_dma R165). -/
def execTrigCh2 : State → Host.Outcome State Fault Refusal := cpuWrite (whenIdle 3 (runChannel .ch2))

/-- `TRIG.INVALID`: the trigger write of any other word (42_dma R174). -/
def execTrigInvalid (ordinal : Word) : State → Host.Outcome State Fault Refusal :=
  cpuWrite (whenIdle ordinal (raise (.dmaBadTrigger ordinal)))

/-- `DMA.NAND8`: the valid trigger of a channel in this mode (42_dma R168, R173). -/
def execDmaNand8 (ch : Channel) : State → Host.Outcome State Fault Refusal :=
  cpuWrite (whenIdle (ordinalOf ch) (runNand8 ch))

/-- `DMA.COPY16` (42_dma R169, R173). -/
def execDmaCopy16 (ch : Channel) : State → Host.Outcome State Fault Refusal :=
  cpuWrite (whenIdle (ordinalOf ch) (runCopy16 ch))

/-- `DMA.COPY16B` (42_dma R170, R173). -/
def execDmaCopy16b (ch : Channel) : State → Host.Outcome State Fault Refusal :=
  cpuWrite (whenIdle (ordinalOf ch) (runCopy16b ch))

/-- `DMA.FILL16` (42_dma R171, R173). -/
def execDmaFill16 (ch : Channel) : State → Host.Outcome State Fault Refusal :=
  cpuWrite (whenIdle (ordinalOf ch) (runFill16 ch))

/-- `DMA.UNHANDLED` (42_dma R172, R173). -/
def execDmaUnhandled (ch : Channel) (mode : Word) : State → Host.Outcome State Fault Refusal :=
  cpuWrite (whenIdle (ordinalOf ch) (runUnhandled ch mode))

/-! ## The DMA registers -/

/-- The read of `DMA[ch][k]` (42_dma R161). -/
def readParam (ch : Channel) (k : DmaReg) (s : State) : Host.Outcome State Fault Refusal :=
  cpuRead (fun t => plainRead (t.dma.get ch k) t) s

/-- The write of `DMA[ch][k]`; it starts nothing (42_dma R160). -/
def writeParam (ch : Channel) (k : DmaReg) (v : Word) (s : State) : Host.Outcome State Fault Refusal :=
  cpuWrite (fun t => t.setDma ch k v) s

/-- `DMA0_MODE.R` (42_dma R161). -/
def execDma0ModeR (s : State) : Host.Outcome State Fault Refusal := readParam .ch0 .mode s

/-- `DMA0_MODE.W` (42_dma R160). -/
def execDma0ModeW (v : Word) (s : State) : Host.Outcome State Fault Refusal := writeParam .ch0 .mode v s

/-- `DMA0_SRCLO.R` (42_dma R161). -/
def execDma0SrcloR (s : State) : Host.Outcome State Fault Refusal := readParam .ch0 .srcLo s

/-- `DMA0_SRCLO.W` (42_dma R160). -/
def execDma0SrcloW (v : Word) (s : State) : Host.Outcome State Fault Refusal := writeParam .ch0 .srcLo v s

/-- `DMA0_DSTLO.R` (42_dma R161). -/
def execDma0DstloR (s : State) : Host.Outcome State Fault Refusal := readParam .ch0 .dstLo s

/-- `DMA0_DSTLO.W` (42_dma R160). -/
def execDma0DstloW (v : Word) (s : State) : Host.Outcome State Fault Refusal := writeParam .ch0 .dstLo v s

/-- `DMA0_LENLO.R` (42_dma R161). -/
def execDma0LenloR (s : State) : Host.Outcome State Fault Refusal := readParam .ch0 .lenLo s

/-- `DMA0_LENLO.W` (42_dma R160). -/
def execDma0LenloW (v : Word) (s : State) : Host.Outcome State Fault Refusal := writeParam .ch0 .lenLo v s

/-- `DMA0_SRCHI.R` (42_dma R161). -/
def execDma0SrchiR (s : State) : Host.Outcome State Fault Refusal := readParam .ch0 .srcHi s

/-- `DMA0_SRCHI.W` (42_dma R160). -/
def execDma0SrchiW (v : Word) (s : State) : Host.Outcome State Fault Refusal := writeParam .ch0 .srcHi v s

/-- `DMA0_DSTHI.R` (42_dma R161). -/
def execDma0DsthiR (s : State) : Host.Outcome State Fault Refusal := readParam .ch0 .dstHi s

/-- `DMA0_DSTHI.W` (42_dma R160). -/
def execDma0DsthiW (v : Word) (s : State) : Host.Outcome State Fault Refusal := writeParam .ch0 .dstHi v s

/-- `DMA0_LENHI.R` (42_dma R161). -/
def execDma0LenhiR (s : State) : Host.Outcome State Fault Refusal := readParam .ch0 .lenHi s

/-- `DMA0_LENHI.W` (42_dma R160). -/
def execDma0LenhiW (v : Word) (s : State) : Host.Outcome State Fault Refusal := writeParam .ch0 .lenHi v s

/-- `DMA1_MODE.R` (42_dma R161). -/
def execDma1ModeR (s : State) : Host.Outcome State Fault Refusal := readParam .ch1 .mode s

/-- `DMA1_MODE.W` (42_dma R160). -/
def execDma1ModeW (v : Word) (s : State) : Host.Outcome State Fault Refusal := writeParam .ch1 .mode v s

/-- `DMA1_SRCLO.R` (42_dma R161). -/
def execDma1SrcloR (s : State) : Host.Outcome State Fault Refusal := readParam .ch1 .srcLo s

/-- `DMA1_SRCLO.W` (42_dma R160). -/
def execDma1SrcloW (v : Word) (s : State) : Host.Outcome State Fault Refusal := writeParam .ch1 .srcLo v s

/-- `DMA1_DSTLO.R` (42_dma R161). -/
def execDma1DstloR (s : State) : Host.Outcome State Fault Refusal := readParam .ch1 .dstLo s

/-- `DMA1_DSTLO.W` (42_dma R160). -/
def execDma1DstloW (v : Word) (s : State) : Host.Outcome State Fault Refusal := writeParam .ch1 .dstLo v s

/-- `DMA1_LENLO.R` (42_dma R161). -/
def execDma1LenloR (s : State) : Host.Outcome State Fault Refusal := readParam .ch1 .lenLo s

/-- `DMA1_LENLO.W` (42_dma R160). -/
def execDma1LenloW (v : Word) (s : State) : Host.Outcome State Fault Refusal := writeParam .ch1 .lenLo v s

/-- `DMA1_SRCHI.R` (42_dma R161). -/
def execDma1SrchiR (s : State) : Host.Outcome State Fault Refusal := readParam .ch1 .srcHi s

/-- `DMA1_SRCHI.W` (42_dma R160). -/
def execDma1SrchiW (v : Word) (s : State) : Host.Outcome State Fault Refusal := writeParam .ch1 .srcHi v s

/-- `DMA1_DSTHI.R` (42_dma R161). -/
def execDma1DsthiR (s : State) : Host.Outcome State Fault Refusal := readParam .ch1 .dstHi s

/-- `DMA1_DSTHI.W` (42_dma R160). -/
def execDma1DsthiW (v : Word) (s : State) : Host.Outcome State Fault Refusal := writeParam .ch1 .dstHi v s

/-- `DMA1_LENHI.R` (42_dma R161). -/
def execDma1LenhiR (s : State) : Host.Outcome State Fault Refusal := readParam .ch1 .lenHi s

/-- `DMA1_LENHI.W` (42_dma R160). -/
def execDma1LenhiW (v : Word) (s : State) : Host.Outcome State Fault Refusal := writeParam .ch1 .lenHi v s

/-- `DMA2_MODE.R` (42_dma R161). -/
def execDma2ModeR (s : State) : Host.Outcome State Fault Refusal := readParam .ch2 .mode s

/-- `DMA2_MODE.W` (42_dma R160). -/
def execDma2ModeW (v : Word) (s : State) : Host.Outcome State Fault Refusal := writeParam .ch2 .mode v s

/-- `DMA2_SRCLO.R` (42_dma R161). -/
def execDma2SrcloR (s : State) : Host.Outcome State Fault Refusal := readParam .ch2 .srcLo s

/-- `DMA2_SRCLO.W` (42_dma R160). -/
def execDma2SrcloW (v : Word) (s : State) : Host.Outcome State Fault Refusal := writeParam .ch2 .srcLo v s

/-- `DMA2_DSTLO.R` (42_dma R161). -/
def execDma2DstloR (s : State) : Host.Outcome State Fault Refusal := readParam .ch2 .dstLo s

/-- `DMA2_DSTLO.W` (42_dma R160). -/
def execDma2DstloW (v : Word) (s : State) : Host.Outcome State Fault Refusal := writeParam .ch2 .dstLo v s

/-- `DMA2_LENLO.R` (42_dma R161). -/
def execDma2LenloR (s : State) : Host.Outcome State Fault Refusal := readParam .ch2 .lenLo s

/-- `DMA2_LENLO.W` (42_dma R160). -/
def execDma2LenloW (v : Word) (s : State) : Host.Outcome State Fault Refusal := writeParam .ch2 .lenLo v s

/-- `DMA2_SRCHI.R` (42_dma R161). -/
def execDma2SrchiR (s : State) : Host.Outcome State Fault Refusal := readParam .ch2 .srcHi s

/-- `DMA2_SRCHI.W` (42_dma R160). -/
def execDma2SrchiW (v : Word) (s : State) : Host.Outcome State Fault Refusal := writeParam .ch2 .srcHi v s

/-- `DMA2_DSTHI.R` (42_dma R161). -/
def execDma2DsthiR (s : State) : Host.Outcome State Fault Refusal := readParam .ch2 .dstHi s

/-- `DMA2_DSTHI.W` (42_dma R160). -/
def execDma2DsthiW (v : Word) (s : State) : Host.Outcome State Fault Refusal := writeParam .ch2 .dstHi v s

/-- `DMA2_LENHI.R` (42_dma R161). -/
def execDma2LenhiR (s : State) : Host.Outcome State Fault Refusal := readParam .ch2 .lenHi s

/-- `DMA2_LENHI.W` (42_dma R160). -/
def execDma2LenhiW (v : Word) (s : State) : Host.Outcome State Fault Refusal := writeParam .ch2 .lenHi v s

/-- `DMASRCTYPE.R` (42_dma R162). -/
def execDmasrctypeR : State → Host.Outcome State Fault Refusal :=
  cpuRead fun s => plainRead s.dmaSrcType s

/-- `DMASRCTYPE.W` (42_dma R162). -/
def execDmasrctypeW (v : Word) : State → Host.Outcome State Fault Refusal :=
  cpuWrite fun s => s.setDmaSrcType v

/-- `DMASTATUS.R` (42_dma R163). -/
def execDmastatusR : State → Host.Outcome State Fault Refusal :=
  cpuRead fun s => plainRead (dmaStatusWord s.cfg) s

/-- `DMATRIG.W` (42_dma R165). -/
def execDmatrigW (v : Word) : State → Host.Outcome State Fault Refusal := cpuWrite (triggerWrite v)

end Sys2Proof.Machine
end

