-- ==== Sys2Proof/Machine/MemoryMap.lean ====
section
/-! DEFINITION. Internal RAM, internal ROM, the direct external window and unmapped space (20_memory R66 to R69). -/

namespace Sys2Proof.Machine

/-- `IRAM.R` (20_memory R67). -/
def execIramR (a : Addr) : State → Host.Outcome State Fault Refusal := cpuRead (iramRead a)

/-- `IRAM.W` (20_memory R67). -/
def execIramW (a : Addr) (v : Word) : State → Host.Outcome State Fault Refusal := cpuWrite (iramWrite a v)

/-- `IROM.R` (20_memory R68). -/
def execIromR (a : Addr) : State → Host.Outcome State Fault Refusal := cpuRead (iromRead a)

/-- `IROM.W` (20_memory R68). -/
def execIromW (a : Addr) (v : Word) : State → Host.Outcome State Fault Refusal := cpuWrite (iromWrite a v)

/-- `EXTWIN.R` (20_memory R69). -/
def execExtwinR (a : Addr) : State → Host.Outcome State Fault Refusal := cpuRead (directRead a)

/-- `EXTWIN.W` (20_memory R69). -/
def execExtwinW (a : Addr) (v : Word) : State → Host.Outcome State Fault Refusal := cpuWrite (directWrite a v)

/-- `UNMAPPED.R` (20_memory R66). -/
def execUnmappedR (a : Addr) : State → Host.Outcome State Fault Refusal := cpuRead (unmappedRead a)

/-- `UNMAPPED.W` (20_memory R66). -/
def execUnmappedW (a : Addr) (v : Word) : State → Host.Outcome State Fault Refusal := cpuWrite (unmappedWrite a v)

end Sys2Proof.Machine
end

