-- ==== Sys2Proof/Machine/Nand.lean ====
section
/-! DEFINITION. The NAND command/status sequencer (43_nand): the rows of its registers and of format NANDCMD. -/

namespace Sys2Proof.Machine

/-- `NANDCMD.W` (43_nand R190). -/
def execNandcmdW (v : Word) : State → Host.Outcome State Fault Refusal := cpuWrite (writeNandCmd v)

/-- `NANDCMD.R`, wrong direction (43_nand R199). -/
def execNandcmdR : State → Host.Outcome State Fault Refusal := cpuRead (unhandledRead 0x7851)

/-- `NANDADRL.W` (43_nand R191). -/
def execNandadrlW (v : Word) : State → Host.Outcome State Fault Refusal := cpuWrite (writeNandAddrLo v)

/-- `NANDADRL.R`, wrong direction (43_nand R199). -/
def execNandadrlR : State → Host.Outcome State Fault Refusal := cpuRead (unhandledRead 0x7852)

/-- `NANDADRH.W` (43_nand R192). -/
def execNandadrhW (v : Word) : State → Host.Outcome State Fault Refusal := cpuWrite (writeNandAddrHi v)

/-- `NANDADRH.R`, wrong direction (43_nand R199). -/
def execNandadrhR : State → Host.Outcome State Fault Refusal := cpuRead (unhandledRead 0x7853)

/-- `NANDDATA.R` (43_nand R193). -/
def execNanddataR : State → Host.Outcome State Fault Refusal := cpuRead nandDataRead

/-- `NANDDATA.W`, wrong direction (43_nand R199). -/
def execNanddataW (v : Word) : State → Host.Outcome State Fault Refusal := cpuWrite (unhandledWrite 0x7854 v)

/-- `NAND.READ`: the data read under command `0x00` (43_nand R195). -/
def execNandRead : State → Host.Outcome State Fault Refusal := cpuRead nandReadImage

/-- `NAND.STATUS`: the data read under command `0x70` (43_nand R197). -/
def execNandStatus : State → Host.Outcome State Fault Refusal := cpuRead nandReadStatus

/-- `NAND.READID`: the data read under command `0x90` (43_nand R194). -/
def execNandReadid : State → Host.Outcome State Fault Refusal := cpuRead nandReadId

/-- `NAND.UNKNOWN`: the data read under any other command (43_nand R198). -/
def execNandUnknown (byte : Byte) : State → Host.Outcome State Fault Refusal := cpuRead (nandReadUnknown byte)

end Sys2Proof.Machine
end

