-- ==== Sys2Proof/Machine/SysReg.lean ====
section
/-! DEFINITION. The delegated windows and the unhandled addresses of the system-register block (45_sysreg_misc). -/

namespace Sys2Proof.Machine

/-- `VIDEO.R` (45_sysreg_misc R225). -/
def execVideoR (a : Addr) : State → Host.Outcome State Fault Refusal := cpuRead (videoRead a)

/-- `VIDEO.W` (45_sysreg_misc R225). -/
def execVideoW (a : Addr) (v : Word) : State → Host.Outcome State Fault Refusal := cpuWrite (videoWrite a v)

/-- `AUDIO.R` (45_sysreg_misc R226). -/
def execAudioR (a : Addr) : State → Host.Outcome State Fault Refusal := cpuRead (audioRead a)

/-- `AUDIO.W` (45_sysreg_misc R226). -/
def execAudioW (a : Addr) (v : Word) : State → Host.Outcome State Fault Refusal := cpuWrite (audioWrite a v)

/-- `SYSREG.UNH.R` (45_sysreg_misc R227). -/
def execSysregUnhR (a : Addr) : State → Host.Outcome State Fault Refusal := cpuRead (unhandledRead a)

/-- `SYSREG.UNH.W` (45_sysreg_misc R228). -/
def execSysregUnhW (a : Addr) (v : Word) : State → Host.Outcome State Fault Refusal := cpuWrite (unhandledWrite a v)

end Sys2Proof.Machine
end

