-- ==== Sys2Proof/Machine/Dispatch.lean ====
section
/-! DEFINITION. The meaning of each operation, one arm a row of spec/opcode_table.json. -/

namespace Sys2Proof.Machine

def exec (i : Instr) (s : State) : Host.Outcome State Fault Refusal :=
  match i with
  | .bankswR => Sys2Proof.Machine.execBankswR s
  | .bankswW v => Sys2Proof.Machine.execBankswW v s
  | .cs0R => Sys2Proof.Machine.execCs0R s
  | .cs0W v => Sys2Proof.Machine.execCs0W v s
  | .cs1R => Sys2Proof.Machine.execCs1R s
  | .cs1W v => Sys2Proof.Machine.execCs1W v s
  | .cs2R => Sys2Proof.Machine.execCs2R s
  | .cs2W v => Sys2Proof.Machine.execCs2W v s
  | .cs3R => Sys2Proof.Machine.execCs3R s
  | .cs3W v => Sys2Proof.Machine.execCs3W v s
  | .cs4R => Sys2Proof.Machine.execCs4R s
  | .cs4W v => Sys2Proof.Machine.execCs4W v s
  | .nandcmdW v => Sys2Proof.Machine.execNandcmdW v s
  | .nandcmdR => Sys2Proof.Machine.execNandcmdR s
  | .nandadrlW v => Sys2Proof.Machine.execNandadrlW v s
  | .nandadrlR => Sys2Proof.Machine.execNandadrlR s
  | .nandadrhW v => Sys2Proof.Machine.execNandadrhW v s
  | .nandadrhR => Sys2Proof.Machine.execNandadrhR s
  | .nanddataR => Sys2Proof.Machine.execNanddataR s
  | .nanddataW v => Sys2Proof.Machine.execNanddataW v s
  | .dma0ModeR => Sys2Proof.Machine.execDma0ModeR s
  | .dma0ModeW v => Sys2Proof.Machine.execDma0ModeW v s
  | .dma0SrcloR => Sys2Proof.Machine.execDma0SrcloR s
  | .dma0SrcloW v => Sys2Proof.Machine.execDma0SrcloW v s
  | .dma0DstloR => Sys2Proof.Machine.execDma0DstloR s
  | .dma0DstloW v => Sys2Proof.Machine.execDma0DstloW v s
  | .dma0LenloR => Sys2Proof.Machine.execDma0LenloR s
  | .dma0LenloW v => Sys2Proof.Machine.execDma0LenloW v s
  | .dma0SrchiR => Sys2Proof.Machine.execDma0SrchiR s
  | .dma0SrchiW v => Sys2Proof.Machine.execDma0SrchiW v s
  | .dma0DsthiR => Sys2Proof.Machine.execDma0DsthiR s
  | .dma0DsthiW v => Sys2Proof.Machine.execDma0DsthiW v s
  | .dma0LenhiR => Sys2Proof.Machine.execDma0LenhiR s
  | .dma0LenhiW v => Sys2Proof.Machine.execDma0LenhiW v s
  | .dma1ModeR => Sys2Proof.Machine.execDma1ModeR s
  | .dma1ModeW v => Sys2Proof.Machine.execDma1ModeW v s
  | .dma1SrcloR => Sys2Proof.Machine.execDma1SrcloR s
  | .dma1SrcloW v => Sys2Proof.Machine.execDma1SrcloW v s
  | .dma1DstloR => Sys2Proof.Machine.execDma1DstloR s
  | .dma1DstloW v => Sys2Proof.Machine.execDma1DstloW v s
  | .dma1LenloR => Sys2Proof.Machine.execDma1LenloR s
  | .dma1LenloW v => Sys2Proof.Machine.execDma1LenloW v s
  | .dma1SrchiR => Sys2Proof.Machine.execDma1SrchiR s
  | .dma1SrchiW v => Sys2Proof.Machine.execDma1SrchiW v s
  | .dma1DsthiR => Sys2Proof.Machine.execDma1DsthiR s
  | .dma1DsthiW v => Sys2Proof.Machine.execDma1DsthiW v s
  | .dma1LenhiR => Sys2Proof.Machine.execDma1LenhiR s
  | .dma1LenhiW v => Sys2Proof.Machine.execDma1LenhiW v s
  | .dma2ModeR => Sys2Proof.Machine.execDma2ModeR s
  | .dma2ModeW v => Sys2Proof.Machine.execDma2ModeW v s
  | .dma2SrcloR => Sys2Proof.Machine.execDma2SrcloR s
  | .dma2SrcloW v => Sys2Proof.Machine.execDma2SrcloW v s
  | .dma2DstloR => Sys2Proof.Machine.execDma2DstloR s
  | .dma2DstloW v => Sys2Proof.Machine.execDma2DstloW v s
  | .dma2LenloR => Sys2Proof.Machine.execDma2LenloR s
  | .dma2LenloW v => Sys2Proof.Machine.execDma2LenloW v s
  | .dma2SrchiR => Sys2Proof.Machine.execDma2SrchiR s
  | .dma2SrchiW v => Sys2Proof.Machine.execDma2SrchiW v s
  | .dma2DsthiR => Sys2Proof.Machine.execDma2DsthiR s
  | .dma2DsthiW v => Sys2Proof.Machine.execDma2DsthiW v s
  | .dma2LenhiR => Sys2Proof.Machine.execDma2LenhiR s
  | .dma2LenhiW v => Sys2Proof.Machine.execDma2LenhiW v s
  | .dmasrctypeR => Sys2Proof.Machine.execDmasrctypeR s
  | .dmasrctypeW v => Sys2Proof.Machine.execDmasrctypeW v s
  | .dmastatusR => Sys2Proof.Machine.execDmastatusR s
  | .dmatrigW v => Sys2Proof.Machine.execDmatrigW v s
  | .videoR a => Sys2Proof.Machine.execVideoR a s
  | .videoW a v => Sys2Proof.Machine.execVideoW a v s
  | .audioR a => Sys2Proof.Machine.execAudioR a s
  | .audioW a v => Sys2Proof.Machine.execAudioW a v s
  | .sysregUnhR a => Sys2Proof.Machine.execSysregUnhR a s
  | .sysregUnhW a v => Sys2Proof.Machine.execSysregUnhW a v s
  | .iramR a => Sys2Proof.Machine.execIramR a s
  | .iramW a v => Sys2Proof.Machine.execIramW a v s
  | .iromR a => Sys2Proof.Machine.execIromR a s
  | .iromW a v => Sys2Proof.Machine.execIromW a v s
  | .extwinR a => Sys2Proof.Machine.execExtwinR a s
  | .extwinW a v => Sys2Proof.Machine.execExtwinW a v s
  | .bankwinR a => Sys2Proof.Machine.execBankwinR a s
  | .bankwinW a v => Sys2Proof.Machine.execBankwinW a v s
  | .unmappedR a => Sys2Proof.Machine.execUnmappedR a s
  | .unmappedW a v => Sys2Proof.Machine.execUnmappedW a v s
  | .dmaNand8 ch => Sys2Proof.Machine.execDmaNand8 ch s
  | .dmaCopy16 ch => Sys2Proof.Machine.execDmaCopy16 ch s
  | .dmaCopy16b ch => Sys2Proof.Machine.execDmaCopy16b ch s
  | .dmaFill16 ch => Sys2Proof.Machine.execDmaFill16 ch s
  | .dmaUnhandled ch mode => Sys2Proof.Machine.execDmaUnhandled ch mode s
  | .trigCh0 => Sys2Proof.Machine.execTrigCh0 s
  | .trigCh1 => Sys2Proof.Machine.execTrigCh1 s
  | .trigCh2 => Sys2Proof.Machine.execTrigCh2 s
  | .trigInvalid ordinal => Sys2Proof.Machine.execTrigInvalid ordinal s
  | .nandRead => Sys2Proof.Machine.execNandRead s
  | .nandStatus => Sys2Proof.Machine.execNandStatus s
  | .nandReadid => Sys2Proof.Machine.execNandReadid s
  | .nandUnknown byte => Sys2Proof.Machine.execNandUnknown byte s
  | .reset => Sys2Proof.Machine.execReset s
  | .bootstrapNand => Sys2Proof.Machine.execBootstrapNand s

end Sys2Proof.Machine
end

