-- ==== Sys2Proof/WellFormed.lean ====
section
/-! DEFINITION. When a configuration meets the constraints of 00_scope section 4, and when the operands of
an operation are ones its row of spec/opcode_table.json admits. Written from the spec's own lists of
addresses and values, not from the decoder. -/

namespace Sys2Proof

namespace Config

/-- The five ranges of the address map, each from its first address to the one after its last
(20_memory R62). -/
def ranges (c : Config) : List (Nat × Nat) :=
  [(sysregBase, sysregLast + 1),
   (c.iramBase.toNat, c.iramBase.toNat + c.iramSize),
   (c.iromBase.toNat, c.iromBase.toNat + iromSize),
   (c.csBase, c.extWinEnd.toNat + 1),
   (c.bankWinBase.toNat, c.bankWinBase.toNat + c.bankWinSize)]

/-- Two ranges have no address in common. -/
abbrev disjoint (r s : Nat × Nat) : Prop := r.2 ≤ r.1 ∨ s.2 ≤ s.1 ∨ r.2 ≤ s.1 ∨ s.2 ≤ r.1

/-- The constraints on the parameters: disjoint ranges (00_scope R11, 92 D44), `EXT_WIN_END >= CS_BASE`,
`BANK_WIN_SIZE >= 1`, the channels' bits of `DMA_STATUS_VALUE` set (00_scope section 4), and a mask-ROM
image that is a memory of `IROM_SIZE` words. -/
abbrev Valid (c : Config) : Prop :=
  c.ranges.Pairwise disjoint ∧ c.csBase ≤ c.extWinEnd.toNat ∧ 1 ≤ c.bankWinSize ∧
    c.dmaStatus &&& 7 = 7 ∧ c.iromImage.wf ∧ c.iromImage.within iromSize

/-- The video window (45_sysreg_misc R225). -/
def inVideo (a : Nat) : Bool := decide (0x7000 ≤ a ∧ a ≤ 0x7099)

/-- The audio window (45_sysreg_misc R226). -/
def inAudio (a : Nat) : Bool := decide (0x7B80 ≤ a ∧ a ≤ 0x7FFF)

/-- The unhandled addresses of the system-register block, as 45_sysreg_misc R229 lists them. -/
def isUnhandled (a : Nat) : Bool :=
  decide ((0x709A ≤ a ∧ a ≤ 0x780F) ∨ (0x7811 ≤ a ∧ a ≤ 0x781F) ∨ (0x7825 ≤ a ∧ a ≤ 0x7850) ∨
    (0x7855 ≤ a ∧ a ≤ 0x7A7F) ∨ a = 0x7A87 ∨ a = 0x7A8F ∨ a = 0x7A97 ∨
    (0x7A98 ≤ a ∧ a ≤ 0x7ABD) ∨ (0x7AC0 ≤ a ∧ a ≤ 0x7B7F))

/-- In no range of the address map (20_memory R62, line 6). -/
def isUnmapped (c : Config) (a : Nat) : Bool :=
  !inSysreg a && !c.inIram a && !c.inIrom a && !c.inDirect a && !c.inBanked a

end Config

open Config in
/-- The operands are ones the operation's row admits: an address in the row's range, a mode word, ordinal
or command byte outside the listed ones for the three catch-all rows (30_encoding R105, R107, R110). -/
def Instr.wf (c : Config) : Instr → Bool
  | .bankswR => true
  | .bankswW _ => true
  | .cs0R => true
  | .cs0W _ => true
  | .cs1R => true
  | .cs1W _ => true
  | .cs2R => true
  | .cs2W _ => true
  | .cs3R => true
  | .cs3W _ => true
  | .cs4R => true
  | .cs4W _ => true
  | .nandcmdW _ => true
  | .nandcmdR => true
  | .nandadrlW _ => true
  | .nandadrlR => true
  | .nandadrhW _ => true
  | .nandadrhR => true
  | .nanddataR => true
  | .nanddataW _ => true
  | .dma0ModeR => true
  | .dma0ModeW _ => true
  | .dma0SrcloR => true
  | .dma0SrcloW _ => true
  | .dma0DstloR => true
  | .dma0DstloW _ => true
  | .dma0LenloR => true
  | .dma0LenloW _ => true
  | .dma0SrchiR => true
  | .dma0SrchiW _ => true
  | .dma0DsthiR => true
  | .dma0DsthiW _ => true
  | .dma0LenhiR => true
  | .dma0LenhiW _ => true
  | .dma1ModeR => true
  | .dma1ModeW _ => true
  | .dma1SrcloR => true
  | .dma1SrcloW _ => true
  | .dma1DstloR => true
  | .dma1DstloW _ => true
  | .dma1LenloR => true
  | .dma1LenloW _ => true
  | .dma1SrchiR => true
  | .dma1SrchiW _ => true
  | .dma1DsthiR => true
  | .dma1DsthiW _ => true
  | .dma1LenhiR => true
  | .dma1LenhiW _ => true
  | .dma2ModeR => true
  | .dma2ModeW _ => true
  | .dma2SrcloR => true
  | .dma2SrcloW _ => true
  | .dma2DstloR => true
  | .dma2DstloW _ => true
  | .dma2LenloR => true
  | .dma2LenloW _ => true
  | .dma2SrchiR => true
  | .dma2SrchiW _ => true
  | .dma2DsthiR => true
  | .dma2DsthiW _ => true
  | .dma2LenhiR => true
  | .dma2LenhiW _ => true
  | .dmasrctypeR => true
  | .dmasrctypeW _ => true
  | .dmastatusR => true
  | .dmatrigW _ => true
  | .videoR a => inVideo a.toNat
  | .videoW a _ => inVideo a.toNat
  | .audioR a => inAudio a.toNat
  | .audioW a _ => inAudio a.toNat
  | .sysregUnhR a => isUnhandled a.toNat
  | .sysregUnhW a _ => isUnhandled a.toNat
  | .iramR a => c.inIram a.toNat
  | .iramW a _ => c.inIram a.toNat
  | .iromR a => c.inIrom a.toNat
  | .iromW a _ => c.inIrom a.toNat
  | .extwinR a => c.inDirect a.toNat
  | .extwinW a _ => c.inDirect a.toNat
  | .bankwinR a => c.inBanked a.toNat
  | .bankwinW a _ => c.inBanked a.toNat
  | .unmappedR a => c.isUnmapped a.toNat
  | .unmappedW a _ => c.isUnmapped a.toNat
  | .dmaNand8 _ => true
  | .dmaCopy16 _ => true
  | .dmaCopy16b _ => true
  | .dmaFill16 _ => true
  | .dmaUnhandled _ mode => decide (mode ∉ [0x1089, 0x0009, 0x4009, 0x0089])
  | .trigCh0 => true
  | .trigCh1 => true
  | .trigCh2 => true
  | .trigInvalid ordinal => decide (ordinal ∉ [1, 2, 3])
  | .nandRead => true
  | .nandStatus => true
  | .nandReadid => true
  | .nandUnknown byte => decide (byte ∉ [0x00, 0x70, 0x90])
  | .reset => true
  | .bootstrapNand => true

end Sys2Proof
end

