-- ==== Sys2Proof/Machine/Step.lean ====
section
/-! DEFINITION. One step: the CPU's next stimulus is taken from `input`, decoded by the address decoder under
the configuration in force, and its operation executed. -/

namespace Sys2Proof.Machine

/-- One step of the machine. A configuration that breaks a constraint is refused (00_scope R11); with no
stimulus pending the block idles, since nothing happens in it without an access (20_memory R76). -/
def step (s : State) : Host.Outcome State Fault Refusal :=
  if s.cfg.Valid then
    match s.input with
    | [] => .next s
    | x :: rest => exec (decode s.cfg x.code) (s.setInput rest)
  else .refused .badConfiguration

namespace State

/-- The state that runs the selector word `k` at its next step: a BUS or EVENT word as the next stimulus; a
trigger word as the write of `0x7ABF`; a DMA mode word in `DMA[ch][0]` with the trigger of the channel as the
next stimulus; a NAND command byte in `NAND_CMD` with a data read as the next stimulus (log 16). -/
def withCode (s : State) (k : Code) : State :=
  match k with
  | .bus sel data => s.setInput (.access sel data :: s.input)
  | .trig ordinal => s.setInput (.wr 0x7ABF ordinal :: s.input)
  | .dmaMode ch mode => (s.setDma ch .mode mode).setInput (.wr 0x7ABF (ordinalOf ch) :: s.input)
  | .nandCmd byte => (s.setNandCmd byte).setInput (.rd 0x7854 :: s.input)
  | .reset => s.setInput (.reset :: s.input)
  | .bootstrap => s.setInput (.reset :: s.input)

/-- The state whose next step runs the operation of a table row's word; unchanged where the word is none. -/
def withFetchWord (s : State) (nbits w : Nat) : State :=
  match tableCode nbits w with
  | some k => s.withCode k
  | none => s

end State

end Sys2Proof.Machine
end

