-- ==== Sys2Proof/Safety.lean ====
section
/-! DEFINITION. What the claims about runs are stated in: a machine that accepts accesses, the invariant of
every step, and the running of several operations one after another. -/

namespace Sys2Proof.Machine

namespace State

/-- The machine accepts an access and the engine is between transfers (10_state R36, R37). -/
def Ready (s : State) : Prop := s.fault = none ∧ s.phase = .idle

end State

/-- The memory of a store or of a ROM is in canonical form. -/
def Slot.wf : Slot → Prop
  | .store m => m.wf
  | .rom m => m.wf
  | .device _ => True

namespace State

/-- What every step keeps: between two operations the engine is Idle (10_state R36); every memory is in
canonical form; internal RAM and ROM hold words of their ranges only; and the internal ROM is its image but
for the eleven vector words (10_state R32). -/
structure Inv (s : State) : Prop where
  phase : s.phase = .idle
  iram_wf : s.iram.wf
  iram_within : s.iram.within s.cfg.iramSize
  irom_wf : s.irom.wf
  irom_within : s.irom.within Config.iromSize
  slots_wf : ∀ i, (s.slots.get i).wf
  irom_image : ∀ o, o < 0x7FF5 → s.irom.readWord o = s.cfg.iromImage.readWord o

end State

/-- The place of a region in the layout (40_chipselect R132). -/
def regionNumber : CsIndex → Nat
  | .cs0 => 0
  | .cs1 => 1
  | .cs2 => 2
  | .cs3 => 3
  | .cs4 => 4

/-- The byte a data read delivers at position `p` under a command and an address (43_nand R196). -/
def deliveredByte (c : Config) (command : Byte) (hi lo : Word) (p : BitVec 32) : Byte :=
  if command = 0x90 then idByte c p.toNat
  else if command = 0x00 then imageByte c ((hi.toNat * 65536 + lo.toNat) * 2 + p.toNat)
  else 0xFF

/-- What `n` data reads under a command log (43_nand R198). -/
def deliveredEvents (command : Byte) (n : Nat) : List Event :=
  if command = 0x90 ∨ command = 0x00 ∨ command = 0x70 then []
  else List.replicate n (.nandUnknownCommand command)

/-- `n` words from address `a` lie inside internal RAM. -/
def inRam (c : Config) (a n : Nat) : Prop :=
  c.iramBase.toNat ≤ a ∧ a + n ≤ c.iramBase.toNat + c.iramSize

/-- The row of format TRIG that names a channel (30_encoding R107). -/
def trigRow : Channel → Instr
  | .ch0 => .trigCh0
  | .ch1 => .trigCh1
  | .ch2 => .trigCh2

/-- The two ways to trigger channel `ch`: the write of its ordinal and its row of format TRIG. -/
def triggers (ch : Channel) : List Instr := [.dmatrigW (ordinalOf ch), trigRow ch]

/-- The rows of format DMAMODE on channel `ch`; `mode` is a word for the catch-all. -/
def modeRows (ch : Channel) (mode : Word) : List Instr :=
  [.dmaNand8 ch, .dmaCopy16 ch, .dmaCopy16b ch, .dmaFill16 ch, .dmaUnhandled ch mode]

/-- The operations that start the row `row` of format DMAMODE on channel `ch`: the row itself, and the channel's
triggers where its mode word selects that row (42_dma R165, R167). -/
def starters (s : State) (ch : Channel) (row : Instr) : List Instr :=
  row :: if decodeDmaMode ch (s.dma.get ch .mode) = row then triggers ch else []

/-- The rows of the 16-bit modes on channel `ch`, each with what its source advances by a word (42_dma R169 to
R171). -/
def wordRows (ch : Channel) : List (Nat × Instr) :=
  [(1, .dmaCopy16 ch), (1, .dmaCopy16b ch), (0, .dmaFill16 ch)]

/-- Several operations one after another; it stops at the first that answers no next state. -/
def execAll : List Instr → State → Host.Outcome State Fault Refusal
  | [], s => .next s
  | i :: rest, s =>
    match exec i s with
    | .next t => execAll rest t
    | .fault r => .fault r
    | .refused r => .refused r

end Sys2Proof.Machine
end

