-- ==== Sys2Proof/Certificates/Slice0/Obligations.lean ====
section
/-! DEFINITION. The statements for the provers, family by family of spec/opcode_table.json. An equation
`exec i s = .next { s with … }` says what the operation writes and that everything else, every byte of every
memory among it, stays. -/

open Sys2Proof Sys2Proof.Machine

/-! ## Chip-select registers and layout (40_chipselect) -/

/-- R130: CS0.W to CS4.W store all sixteen bits in their register and change nothing else of the state; the
layout, a function of the registers, keeps the regions up to the written one where they start, moves every
later region by the difference in size, keeps the sizes of the others, and stays as it was when the size code
does or the value is the one already held. -/
def Obligations.ChipSelectWriteStoresWord : Prop :=
  ∀ (i : CsIndex) (v : Word) (s : State), s.fault = none →
    exec (regWriteInstr (.cs i) v) s = .next { s with cs := s.cs.set i v } ∧
    (∀ j, (s.cs.set i v).get j = if j = i then v else s.cs.get j) ∧
    (∀ j, (regionNumber j ≤ regionNumber i → csStart (s.cs.set i v) j = csStart s.cs j) ∧
      (regionNumber i < regionNumber j →
        csStart (s.cs.set i v) j + csSize s.cs i = csStart s.cs j + csSize (s.cs.set i v) i) ∧
      (j ≠ i → csSize (s.cs.set i v) j = csSize s.cs j)) ∧
    (v.toNat / 256 = (s.cs.get i).toNat / 256 → ∀ o, csLookup (s.cs.set i v) o = csLookup s.cs o) ∧
    s.cs.set i (s.cs.get i) = s.cs

/-- R131: CS0.R to CS4.R return the register; no side effect. -/
def Obligations.ChipSelectReadReturnsRegister : Prop :=
  ∀ (i : CsIndex) (s : State), s.fault = none →
    exec (regReadInstr (.cs i)) s = .next { s with readData := s.cs.get i }

/-- R132: the layout as a function of the five registers: its sizes, starts, ends and total, and their ranges;
an offset inside region `i`'s span routes to region `i`, with the offset relative to the region (the spec's
decision D6, log 18). -/
def Obligations.LayoutFollowsFromRegisters : Prop :=
  ∀ cs : PerRegion Word,
    (∀ i, csSize cs i = ((cs.get i).toNat / 256 + 1) * 0x10000 ∧ 0x10000 ≤ csSize cs i ∧
      csSize cs i ≤ 0x1000000) ∧
    csStart cs .cs0 = 0 ∧
    (∀ i j, regionNumber j = regionNumber i + 1 → csStart cs j = csStart cs i + csSize cs i) ∧
    (∀ i, csEnd cs i = csStart cs i + csSize cs i) ∧
    csTotal cs = csEnd cs .cs4 ∧
    csTotal cs = csSize cs .cs0 + csSize cs .cs1 + csSize cs .cs2 + csSize cs .cs3 + csSize cs .cs4 ∧
    0x50000 ≤ csTotal cs ∧ csTotal cs ≤ 0x5000000 ∧
    ∀ i x, csStart cs i ≤ x → x < csEnd cs i → csLookup cs x = some (i, x - csStart cs i)

/-- R134: `CsLookup(o)` is the region whose span holds `o`, with the region-relative offset; none exactly
from `total` on; and no two regions share an offset. -/
def Obligations.LookupFindsTheCoveringRegion : Prop :=
  ∀ (cs : PerRegion Word) (o : Nat),
    (∀ i r, csLookup cs o = some (i, r) ↔ csStart cs i ≤ o ∧ o < csEnd cs i ∧ r = o - csStart cs i) ∧
    (csLookup cs o = none ↔ csTotal cs ≤ o)

/-- R140: the lookup reads bits 15:8 of the registers only. -/
def Obligations.LookupIgnoresLowControlBits : Prop :=
  ∀ (cs cs' : PerRegion Word), (∀ i, (cs.get i).toNat / 256 = (cs'.get i).toNat / 256) →
    ∀ o, csLookup cs o = csLookup cs' o

/-- R138, R137 through EXTWIN.R (R69): an address `CS_BASE + start_i + r` of the direct window reads word `r`
of slot `i`; from `total` on it reads zero and is logged. Of a general capability the reply is the model's
free value (log 11). -/
def Obligations.DirectWindowReadReachesItsSlot : Prop :=
  ∀ (s : State) (a : Addr), s.fault = none → s.cfg.csBase ≤ a.toNat →
    (∀ i r, a.toNat = s.cfg.csBase + csStart s.cs i + r → r < csSize s.cs i →
      (∀ m, s.slots.get i = .store m ∨ s.slots.get i = .rom m →
        exec (.extwinR a) s = .next { s with readData := m.readWord r }) ∧
      (∀ h, s.slots.get i = .device h →
        exec (.extwinR a) s = .next
          { s with
            readData := Config.csReply i h r
            slots := s.slots.set i (.device (h ++ [.read r])) })) ∧
    (s.cfg.csBase + csTotal s.cs ≤ a.toNat →
      exec (.extwinR a) s = .next
        { s with
          readData := 0
          log := s.log ++ [.csUnmapped (a.toNat - s.cfg.csBase) none] })

/-- R139, R137 through EXTWIN.W (R69): the word reaches slot `i` at `r`: a store holds it there and every
other byte of it stays, a ROM ignores it, a capability receives it; from `total` on it is dropped and
logged. -/
def Obligations.DirectWindowWriteReachesItsSlot : Prop :=
  ∀ (s : State) (a : Addr) (v : Word), s.fault = none → s.cfg.csBase ≤ a.toNat →
    (∀ i r, a.toNat = s.cfg.csBase + csStart s.cs i + r → r < csSize s.cs i →
      (∀ m : Memory, s.slots.get i = .store m → m.wf →
        ∃ m' : Memory,
          exec (.extwinW a v) s = .next { s with slots := s.slots.set i (.store m') } ∧ m'.wf ∧
            m'.readWord r = v ∧ ∀ n, n / 2 ≠ r → m'.readByte n = m.readByte n) ∧
      (∀ m, s.slots.get i = .rom m → exec (.extwinW a v) s = .next s) ∧
      (∀ h, s.slots.get i = .device h →
        exec (.extwinW a v) s = .next { s with slots := s.slots.set i (.device (h ++ [.write r v])) })) ∧
    (s.cfg.csBase + csTotal s.cs ≤ a.toNat →
      exec (.extwinW a v) s = .next
        { s with log := s.log ++ [.csUnmapped (a.toNat - s.cfg.csBase) (some v)] })

/-- R141: with `CS[0] = 0x0047` and the others at reset, the adjacent addresses `CS_BASE + 0xFFFF` and
`CS_BASE + 0x10000` read slot 0 at `0xFFFF` and slot 1 at `0`. -/
def Obligations.AdjacentAddressesCrossSlots : Prop :=
  ∀ (s : State) (m n : Memory), s.fault = none → s.cs = ⟨0x0047, 0, 0, 0, 0⟩ →
    s.slots.get .cs0 = .store m → s.slots.get .cs1 = .store n →
    exec (.extwinR (BitVec.ofNat 32 (s.cfg.csBase + 0xFFFF))) s =
        .next { s with readData := m.readWord 0xFFFF } ∧
      exec (.extwinR (BitVec.ofNat 32 (s.cfg.csBase + 0x10000))) s =
        .next { s with readData := n.readWord 0 }

/-! ## Bank switch and banked window (41_bankwindow) -/

/-- R150, R151: BANKSW.W stores all sixteen bits, BANKSW.R returns them. -/
def Obligations.BankSwitchStoresAndReturns : Prop :=
  ∀ (v : Word) (s : State), s.fault = none →
    exec (.bankswW v) s = .next { s with banksw := v } ∧
      exec .bankswR s = .next { s with readData := s.banksw }

/-- R152, R155: the translation is the additive shift of the bank, negative exactly for bank 0 below
`CS_BASE`; bits 15:6 of BANKSW do not enter. -/
def Obligations.BankTranslationIsAShift : Prop :=
  ∀ (c : Config) (b b' : Word) (o o' : Nat),
    bankTranslate c b o = (o : Int) + (b.toNat % 64 : Nat) * 0x200000 - (c.csBase : Int) ∧
    bankTranslate c b o - bankTranslate c b o' = (o : Int) - (o' : Int) ∧
    bankTranslate c b o - bankTranslate c b' o =
      (((b.toNat % 64 : Nat) : Int) - ((b'.toNat % 64 : Nat) : Int)) * 0x200000 ∧
    (bankTranslate c b o < 0 ↔ b.toNat % 64 = 0 ∧ o < c.csBase)

/-- R153: BANKWIN.R at in-window offset `o`: a negative translation reads zero and is logged; otherwise the
read is that of the chip-select space at the translated offset. -/
def Obligations.BankedReadTranslates : Prop :=
  ∀ (s : State) (a : Addr) (o : Nat), s.fault = none → a.toNat = s.cfg.bankWinBase.toNat + o →
    (bankTranslate s.cfg s.banksw o < 0 →
      exec (.bankwinR a) s = .next
        { s with
          readData := 0
          log := s.log ++
            [.bankNegative o (s.banksw.toNat % 64) (bankTranslate s.cfg s.banksw o) none] }) ∧
    (∀ i r, bankTranslate s.cfg s.banksw o = (csStart s.cs i + r : Nat) → r < csSize s.cs i →
      (∀ m, s.slots.get i = .store m ∨ s.slots.get i = .rom m →
        exec (.bankwinR a) s = .next { s with readData := m.readWord r }) ∧
      (∀ h, s.slots.get i = .device h →
        exec (.bankwinR a) s = .next
          { s with
            readData := Config.csReply i h r
            slots := s.slots.set i (.device (h ++ [.read r])) })) ∧
    (∀ t : Nat, bankTranslate s.cfg s.banksw o = t → csTotal s.cs ≤ t →
      exec (.bankwinR a) s = .next { s with readData := 0, log := s.log ++ [.csUnmapped t none] })

/-- R154: BANKWIN.W at in-window offset `o`, the same translation for a write. -/
def Obligations.BankedWriteTranslates : Prop :=
  ∀ (s : State) (a : Addr) (v : Word) (o : Nat), s.fault = none →
    a.toNat = s.cfg.bankWinBase.toNat + o →
    (bankTranslate s.cfg s.banksw o < 0 →
      exec (.bankwinW a v) s = .next
        { s with
          log := s.log ++
            [.bankNegative o (s.banksw.toNat % 64) (bankTranslate s.cfg s.banksw o) (some v)] }) ∧
    (∀ i r, bankTranslate s.cfg s.banksw o = (csStart s.cs i + r : Nat) → r < csSize s.cs i →
      (∀ m : Memory, s.slots.get i = .store m → m.wf →
        ∃ m' : Memory,
          exec (.bankwinW a v) s = .next { s with slots := s.slots.set i (.store m') } ∧ m'.wf ∧
            m'.readWord r = v ∧ ∀ n, n / 2 ≠ r → m'.readByte n = m.readByte n) ∧
      (∀ m, s.slots.get i = .rom m → exec (.bankwinW a v) s = .next s) ∧
      (∀ h, s.slots.get i = .device h →
        exec (.bankwinW a v) s = .next { s with slots := s.slots.set i (.device (h ++ [.write r v])) })) ∧
    (∀ t : Nat, bankTranslate s.cfg s.banksw o = t → csTotal s.cs ≤ t →
      exec (.bankwinW a v) s = .next { s with log := s.log ++ [.csUnmapped t (some v)] })

/-- R82: two addresses of the two windows that mean one CS offset reach the same word: they read alike, and a
word written to a store through one is read back through the other. -/
def Obligations.WindowsAliasTheSameWords : Prop :=
  ∀ (s : State) (a b : Addr) (v : Word), s.fault = none →
    s.cfg.csBase ≤ a.toNat → s.cfg.bankWinBase.toNat ≤ b.toNat →
    bankTranslate s.cfg s.banksw (b.toNat - s.cfg.bankWinBase.toNat) = (a.toNat : Int) - s.cfg.csBase →
    exec (.extwinR a) s = exec (.bankwinR b) s ∧ exec (.extwinW a v) s = exec (.bankwinW b v) s ∧
      ∀ (i : CsIndex) (r : Nat) (m : Memory), a.toNat = s.cfg.csBase + csStart s.cs i + r →
        r < csSize s.cs i → s.slots.get i = .store m → m.wf →
        (∃ t, exec (.extwinW a v) s = .next t ∧ exec (.bankwinR b) t = .next { t with readData := v }) ∧
        (∃ t, exec (.bankwinW b v) s = .next t ∧ exec (.extwinR a) t = .next { t with readData := v })

/-! ## Internal RAM, internal ROM, unmapped space (20_memory) -/

/-- R67: IRAM.R returns the word at the address and IRAM.W stores the word there; every other byte of internal
RAM and everything else stays, no event; the next read of the address returns the word written. -/
def Obligations.InternalRamIsPlainMemory : Prop :=
  ∀ (s : State) (a : Addr) (v : Word), s.fault = none → s.cfg.inIram a.toNat = true →
    exec (.iramR a) s = .next
      { s with readData := s.iram.readWord (a.toNat - s.cfg.iramBase.toNat) } ∧
    (s.iram.wf → ∃ m : Memory, exec (.iramW a v) s = .next { s with iram := m } ∧ m.wf ∧
      m.readWord (a.toNat - s.cfg.iramBase.toNat) = v ∧
      (∀ n, n / 2 ≠ a.toNat - s.cfg.iramBase.toNat → m.readByte n = s.iram.readByte n) ∧
      exec (.iramR a) { s with iram := m } = .next { s with iram := m, readData := v })

/-- R68: IROM.R returns the word at the address without side effect; IROM.W writes nothing and logs `RomWrite`
(the spec's decision D29, log 15). -/
def Obligations.InternalRomReadsAndDropsWrites : Prop :=
  ∀ (s : State) (a : Addr) (v : Word), s.fault = none → s.cfg.inIrom a.toNat = true →
    exec (.iromR a) s = .next
      { s with readData := s.irom.readWord (a.toNat - s.cfg.iromBase.toNat) } ∧
    exec (.iromW a v) s = .next { s with log := s.log ++ [.romWrite a v] }

/-- R66: UNMAPPED.R reads zero and UNMAPPED.W is discarded, both logged, no fault; and the same for a CS offset
past the last region and for a negative translation of the banked window. -/
def Obligations.UnmappedReadsZeroAndDropsWrites : Prop :=
  ∀ (s : State) (a : Addr) (v : Word), s.fault = none →
    exec (.unmappedR a) s = .next { s with readData := 0, log := s.log ++ [.unmapped a none] } ∧
    exec (.unmappedW a v) s = .next { s with log := s.log ++ [.unmapped a (some v)] } ∧
    (∀ o, a.toNat = s.cfg.csBase + o → csTotal s.cs ≤ o →
      exec (.extwinR a) s = .next { s with readData := 0, log := s.log ++ [.csUnmapped o none] } ∧
      exec (.extwinW a v) s = .next { s with log := s.log ++ [.csUnmapped o (some v)] }) ∧
    ∀ o, a.toNat = s.cfg.bankWinBase.toNat + o → bankTranslate s.cfg s.banksw o < 0 →
      exec (.bankwinR a) s = .next
        { s with
          readData := 0
          log := s.log ++
            [.bankNegative o (s.banksw.toNat % 64) (bankTranslate s.cfg s.banksw o) none] } ∧
      exec (.bankwinW a v) s = .next
        { s with
          log := s.log ++
            [.bankNegative o (s.banksw.toNat % 64) (bankTranslate s.cfg s.banksw o) (some v)] }

/-! ## The rest of the system-register block (45_sysreg_misc) -/

/-- R225, R226: VIDEO and AUDIO accesses are handed to the co-processor and change nothing of the block; what a
read returns is the model's free value, the co-processor's reply (log 10). -/
def Obligations.CoprocessorWindowsAreDelegated : Prop :=
  ∀ (s : State) (a : Addr) (v : Word), s.fault = none →
    exec (.videoR a) s = .next
      { s with
        readData := Config.videoReply s.video a.toNat
        video := s.video ++ [.read a.toNat] } ∧
    exec (.videoW a v) s = .next { s with video := s.video ++ [.write a.toNat v] } ∧
    exec (.audioR a) s = .next
      { s with
        readData := Config.audioReply s.audio a.toNat
        audio := s.audio ++ [.read a.toNat] } ∧
    exec (.audioW a v) s = .next { s with audio := s.audio ++ [.write a.toNat v] }

/-- R227, R228: SYSREG.UNH.R reads zero and logs, SYSREG.UNH.W stores nothing and logs. -/
def Obligations.UnhandledRegistersReadZero : Prop :=
  ∀ (s : State) (a : Addr) (v : Word), s.fault = none →
    exec (.sysregUnhR a) s = .next
      { s with readData := 0, log := s.log ++ [.unhandledRegRead a] } ∧
    exec (.sysregUnhW a v) s = .next { s with log := s.log ++ [.unhandledRegWrite a v] }

/-- R199: the wrong-direction accesses of the NAND registers. -/
def Obligations.WrongDirectionNandAccesses : Prop :=
  ∀ (s : State) (v : Word), s.fault = none →
    exec .nandcmdR s = .next { s with readData := 0, log := s.log ++ [.unhandledRegRead 0x7851] } ∧
    exec .nandadrlR s = .next { s with readData := 0, log := s.log ++ [.unhandledRegRead 0x7852] } ∧
    exec .nandadrhR s = .next { s with readData := 0, log := s.log ++ [.unhandledRegRead 0x7853] } ∧
    exec (.nanddataW v) s = .next { s with log := s.log ++ [.unhandledRegWrite 0x7854 v] }

/-! ## NAND sequencer (43_nand) -/

/-- R190: NANDCMD.W stores bits 7:0; position and address stay. -/
def Obligations.NandCommandWriteKeepsPosition : Prop :=
  ∀ (s : State) (v : Word), s.fault = none →
    exec (.nandcmdW v) s = .next { s with nandCmd := BitVec.ofNat 8 (v.toNat % 256) }

/-- R191, R192: NANDADRL.W and NANDADRH.W store their half and rewind the position. -/
def Obligations.NandAddressWriteRewinds : Prop :=
  ∀ (s : State) (v : Word), s.fault = none →
    exec (.nandadrlW v) s = .next { s with nandAddrLo := v, nandPos := 0 } ∧
      exec (.nandadrhW v) s = .next { s with nandAddrHi := v, nandPos := 0 }

/-- R194, R195: the data reads NAND.READ and NAND.READID: the byte each delivers, zero-extended (D14), and the
position one further, wrapping modulo `2^32` (D16). -/
def Obligations.NandDataRowsDeliverTheirByte : Prop :=
  ∀ s : State, s.fault = none →
    exec .nandRead s = .next
      { s with
        readData := (imageByte s.cfg
          ((s.nandAddrHi.toNat * 65536 + s.nandAddrLo.toNat) * 2 + s.nandPos.toNat)).setWidth 16
        nandPos := BitVec.ofNat 32 (s.nandPos.toNat + 1) } ∧
    exec .nandReadid s = .next
      { s with
        readData := (idByte s.cfg s.nandPos.toNat).setWidth 16
        nandPos := BitVec.ofNat 32 (s.nandPos.toNat + 1) }

/-- R197, R198: the data reads NAND.STATUS and NAND.UNKNOWN: the word `0x00FF` whatever the position, the
position one further, and the event of an unknown command; and the data port under command `0x70` or an unlisted
command is that read. -/
def Obligations.StatusAndUnknownReadsAreAllOnes : Prop :=
  ∀ (s : State) (command : Byte), s.fault = none →
    exec .nandStatus s = .next { s with readData := 0x00FF, nandPos := s.nandPos + 1 } ∧
    exec (.nandUnknown command) s = .next
      { s with
        readData := 0x00FF
        nandPos := s.nandPos + 1
        log := s.log ++ [.nandUnknownCommand command] } ∧
    (s.nandCmd = 0x70 → exec .nanddataR s = exec .nandStatus s) ∧
    (s.nandCmd ≠ 0x00 → s.nandCmd ≠ 0x70 → s.nandCmd ≠ 0x90 →
      exec .nanddataR s = exec (.nandUnknown s.nandCmd) s)

/-- R196, R193: NANDDATA.R delivers the byte of the latched command at the position, and the position advances
whatever the command. -/
def Obligations.DataPortFollowsTheLatchedCommand : Prop :=
  ∀ s : State, s.fault = none →
    exec .nanddataR s = exec (decodeNandCmd s.nandCmd) s ∧
    exec .nanddataR s = .next
      { s with
        readData := (deliveredByte s.cfg s.nandCmd s.nandAddrHi s.nandAddrLo s.nandPos).setWidth 16
        nandPos := s.nandPos + 1
        log := s.log ++ deliveredEvents s.nandCmd 1 }

/-- R195, the source's testable property: under command `0x00` an address write followed by `n + 1` data reads
ends with byte `addr * 2 + n` of the image in bits 7:0 of the word read, the position at `n + 1` and nothing else
changed. -/
def Obligations.AddressWriteRestartsTheStream : Prop :=
  ∀ (s : State) (v : Word) (n : Nat), s.fault = none → s.nandCmd = 0x00 → n + 1 < 2 ^ 32 →
    (∃ w : Word, lowByte w = imageByte s.cfg ((s.nandAddrHi.toNat * 65536 + v.toNat) * 2 + n) ∧
      execAll (.nandadrlW v :: List.replicate (n + 1) .nanddataR) s = .next
        { s with nandAddrLo := v, nandPos := BitVec.ofNat 32 (n + 1), readData := w }) ∧
    ∃ w : Word, lowByte w = imageByte s.cfg ((v.toNat * 65536 + s.nandAddrLo.toNat) * 2 + n) ∧
      execAll (.nandadrhW v :: List.replicate (n + 1) .nanddataR) s = .next
        { s with nandAddrHi := v, nandPos := BitVec.ofNat 32 (n + 1), readData := w }

/-! ## DMA registers and trigger (42_dma) -/

/-- R160, R161: the 21 parameter registers: a write stores all sixteen bits in its register only and starts
nothing, a read returns the register. -/
def Obligations.DmaParametersStoreAndReturn : Prop :=
  ∀ (ch : Channel) (k : DmaReg) (v : Word) (s : State), s.fault = none →
    exec (dmaWriteInstr ch k v) s = .next { s with dma := s.dma.set ch k v } ∧
    (∀ ch' k', (s.dma.set ch k v).get ch' k' = if ch' = ch ∧ k' = k then v else s.dma.get ch' k') ∧
    exec (dmaReadInstr ch k) s = .next { s with readData := s.dma.get ch k }

/-- R162: DMASRCTYPE is plain storage. -/
def Obligations.SourceTypeIsPlainStorage : Prop :=
  ∀ (v : Word) (s : State), s.fault = none →
    exec (.dmasrctypeW v) s = .next { s with dmaSrcType := v } ∧
      exec .dmasrctypeR s = .next { s with readData := s.dmaSrcType }

/-- R163: DMASTATUS.R returns the constant `DMA_STATUS_VALUE`, whose bits 0 to 2 are set in every valid
configuration (the constraint is the spec's decision D13, the number of channels D7). -/
def Obligations.StatusAlwaysReportsReady : Prop :=
  ∀ s : State, s.fault = none →
    exec .dmastatusR s = .next { s with readData := s.cfg.dmaStatus } ∧
      (s.cfg.Valid → ∀ n, n < 3 → s.cfg.dmaStatus.getLsbD n = true)

/-- R164: the four latched values, the high registers' bits 15:12 neglected. -/
def Obligations.LatchAssemblesTwentyEightBits : Prop :=
  ∀ (d : DmaRegs) (ch : Channel),
    (latch d ch).mode = d.get ch .mode ∧
    (latch d ch).src = (d.get ch .srcHi).toNat % 4096 * 65536 + (d.get ch .srcLo).toNat ∧
    (latch d ch).dst = (d.get ch .dstHi).toNat % 4096 * 65536 + (d.get ch .dstLo).toNat ∧
    (latch d ch).len = (d.get ch .lenHi).toNat % 4096 * 65536 + (d.get ch .lenLo).toNat

/-- R165, R107, R167: the trigger write of ordinal 1, 2, 3 is the row TRIG.CH0, TRIG.CH1, TRIG.CH2, and each
runs the row the whole mode word of its channel selects. -/
def Obligations.TriggerRunsTheModeOfItsChannel : Prop :=
  ∀ s : State, s.Ready →
    (∀ ch, ∀ i ∈ triggers ch, exec i s = exec (decodeDmaMode ch (s.dma.get ch .mode)) s) ∧
    ordinalOf .ch0 = 1 ∧ ordinalOf .ch1 = 2 ∧ ordinalOf .ch2 = 3 ∧
    (∀ ch, decodeTrig (ordinalOf ch) = trigRow ch) ∧
    ∀ ch mode, decodeDmaMode ch mode =
      if mode = 0x1089 then .dmaNand8 ch
      else if mode = 0x0009 then .dmaCopy16 ch
      else if mode = 0x4009 then .dmaCopy16b ch
      else if mode = 0x0089 then .dmaFill16 ch
      else .dmaUnhandled ch mode

/-- R173, R166: from a ready state every trigger row completes, whatever its addresses; the engine is Idle
again; the seven registers of its channel read zero unless the engine's own trigger write faulted. -/
def Obligations.EveryTriggerCompletesAndClears : Prop :=
  ∀ (s : State) (ch : Channel) (mode : Word), s.Ready →
    ∀ i ∈ triggers ch ++ modeRows ch mode,
      ∃ t, exec i s = .next t ∧ t.phase = .idle ∧
        (t.fault = none → ∀ k, t.dma.get ch k = 0) ∧
        (∀ r, t.fault = some r → ∃ d, r = .dmaNestedTrigger d)

/-- R174: a trigger word other than 1, 2, 3 faults and changes nothing else. -/
def Obligations.BadTriggerFaults : Prop :=
  ∀ (s : State) (d : Word), s.Ready → d ≠ 1 → d ≠ 2 → d ≠ 3 →
    exec (.dmatrigW d) s = .next { s with fault := some (.dmaBadTrigger d) } ∧
      exec (.trigInvalid d) s = .next { s with fault := some (.dmaBadTrigger d) }

/-- R175, R243: the engine's own write of the trigger register, after `k` words of any transfer, from any source.
The accesses of the first `k` words stay, and so do those that fetched the refused word, which is recorded; the
parameters are not cleared. Two cases spelt out, from internal RAM: the first write is to `0x7ABF`, and nothing else
changes; the second is, and the first has reached `DMA_SRCTYPE` at `0x7ABE`. -/
def Obligations.NestedTriggerStopsTheTransfer : Prop :=
  ∀ (s : State) (ch : Channel) (x : Transfer), s.Ready → x = latch s.dma ch →
    (∀ (k : Nat) (u : State) (p : Word × State), ∀ q ∈ wordRows ch,
      x.dst + k = 0x7ABF → k < x.len → u = wordLoop q.1 k x.src x.dst s →
      p = busRead (BitVec.ofNat 32 (x.src + q.1 * k)) u →
      u.fault = none ∧ ∀ i ∈ starters s ch q.2,
        exec i s = .next { p.2 with fault := some (.dmaNestedTrigger p.1) }) ∧
    (∀ (k : Nat) (u : State) (p q : Word × State), x.dst + k = 0x7ABF → k < x.len / 2 →
      u = nandLoop k x.dst s → p = nandDataRead u → q = nandDataRead p.2 →
      u.fault = none ∧ ∀ i ∈ starters s ch (.dmaNand8 ch),
        exec i s = .next
          { q.2 with fault := some (.dmaNestedTrigger (packBytes (lowByte p.1) (lowByte q.1))) }) ∧
    (∀ w : Word, ∀ q ∈ wordRows ch, s.cfg.Valid → x.dst = 0x7ABF → 1 ≤ x.len → inRam s.cfg x.src 1 →
      w = s.iram.readWord (x.src - s.cfg.iramBase.toNat) →
      ∀ i ∈ starters s ch q.2, exec i s = .next { s with fault := some (.dmaNestedTrigger w) }) ∧
    ∀ v w : Word, ∀ q ∈ wordRows ch, s.cfg.Valid → x.dst = 0x7ABE → 2 ≤ x.len →
      inRam s.cfg x.src (q.1 + 1) →
      v = s.iram.readWord (x.src - s.cfg.iramBase.toNat) →
      w = s.iram.readWord (x.src + q.1 - s.cfg.iramBase.toNat) →
      ∀ i ∈ starters s ch q.2,
        exec i s = .next { s with dmaSrcType := v, fault := some (.dmaNestedTrigger w) }

/-- R165, R244: inside a transfer a trigger write is refused before its ordinal is looked at. -/
def Obligations.TriggerInsideTransferFaults : Prop :=
  ∀ (s : State) (d : Word), s.fault = none → s.phase ≠ .idle →
    exec (.dmatrigW d) s = .next { s with fault := some (.dmaNestedTrigger d) }

/-- R169, R170: DMA.COPY16 and DMA.COPY16B between ranges of internal RAM that a forward copy does not spoil:
the destination words are the source words, every other byte stays, the channel is cleared, nothing else
changes; and the trigger of a channel in one of the two modes does just that. -/
def Obligations.CopyMovesRamWords : Prop :=
  ∀ (s : State) (ch : Channel) (x : Transfer), s.Ready → s.cfg.Valid → s.iram.wf →
    x = latch s.dma ch → inRam s.cfg x.src x.len → inRam s.cfg x.dst x.len →
    (x.dst ≤ x.src ∨ x.src + x.len ≤ x.dst) →
    ∃ m : Memory,
      (∀ i ∈ [Instr.dmaCopy16 ch, .dmaCopy16b ch],
        exec i s = .next { s with iram := m, dma := s.dma.clear ch }) ∧
      (x.mode = 0x0009 ∨ x.mode = 0x4009 → ∀ i ∈ triggers ch,
        exec i s = .next { s with iram := m, dma := s.dma.clear ch }) ∧ m.wf ∧
      (∀ j, j < x.len → m.readWord (x.dst + j - s.cfg.iramBase.toNat) =
        s.iram.readWord (x.src + j - s.cfg.iramBase.toNat)) ∧
      ∀ n, ¬(x.dst ≤ s.cfg.iramBase.toNat + n / 2 ∧ s.cfg.iramBase.toNat + n / 2 < x.dst + x.len) →
        m.readByte n = s.iram.readByte n

/-- R270, R169: with the destination one above the source every destination word receives the original first
source word. -/
def Obligations.OverlappingCopyRepeatsFirstWord : Prop :=
  ∀ (s : State) (ch : Channel) (x : Transfer), s.Ready → s.cfg.Valid → s.iram.wf →
    x = latch s.dma ch → inRam s.cfg x.src (x.len + 1) → x.dst = x.src + 1 →
    ∃ m : Memory,
      (∀ i ∈ [Instr.dmaCopy16 ch, .dmaCopy16b ch],
        exec i s = .next { s with iram := m, dma := s.dma.clear ch }) ∧
      ∀ j, j < x.len → m.readWord (x.dst + j - s.cfg.iramBase.toNat) =
        s.iram.readWord (x.src - s.cfg.iramBase.toNat)

/-- R171: DMA.FILL16 within internal RAM: every destination word is the one source word, also where the source
lies inside the destination; every other byte stays. -/
def Obligations.FillRepeatsTheSourceWord : Prop :=
  ∀ (s : State) (ch : Channel) (x : Transfer), s.Ready → s.cfg.Valid → s.iram.wf →
    x = latch s.dma ch → inRam s.cfg x.src 1 → inRam s.cfg x.dst x.len →
    ∃ m : Memory,
      exec (.dmaFill16 ch) s = .next { s with iram := m, dma := s.dma.clear ch } ∧ m.wf ∧
      (∀ j, j < x.len → m.readWord (x.dst + j - s.cfg.iramBase.toNat) =
        s.iram.readWord (x.src - s.cfg.iramBase.toNat)) ∧
      ∀ n, ¬(x.dst ≤ s.cfg.iramBase.toNat + n / 2 ∧ s.cfg.iramBase.toNat + n / 2 < x.dst + x.len) →
        m.readByte n = s.iram.readByte n

/-- R269, R171: a fill whose source is the NAND data port streams one byte a word, zero-extended, and advances the
position by the length; every other byte of internal RAM stays (the spec's decisions D48, D14 and D17). -/
def Obligations.FillFromDataPortStreamsBytes : Prop :=
  ∀ (s : State) (ch : Channel) (x : Transfer), s.Ready → s.cfg.Valid → s.iram.wf →
    x = latch s.dma ch → x.src = 0x7854 → inRam s.cfg x.dst x.len →
    ∃ m : Memory,
      exec (.dmaFill16 ch) s = .next
        { s with
          iram := m
          dma := s.dma.clear ch
          nandPos := s.nandPos + BitVec.ofNat 32 x.len
          log := s.log ++ deliveredEvents s.nandCmd x.len } ∧ m.wf ∧
      (∀ j, j < x.len → m.readWord (x.dst + j - s.cfg.iramBase.toNat) =
        (deliveredByte s.cfg s.nandCmd s.nandAddrHi s.nandAddrLo
          (s.nandPos + BitVec.ofNat 32 j)).setWidth 16) ∧
      ∀ n, ¬(x.dst ≤ s.cfg.iramBase.toNat + n / 2 ∧ s.cfg.iramBase.toNat + n / 2 < x.dst + x.len) →
        m.readByte n = s.iram.readByte n

/-- R168: DMA.NAND8 into internal RAM: `floor(len / 2)` words, each of two consecutive bytes of the sequencer,
the first in the low half; the position advances by two a word; the source registers do not enter. -/
def Obligations.NandTransferPacksBytePairs : Prop :=
  ∀ (s : State) (ch : Channel) (x : Transfer), s.Ready → s.cfg.Valid → s.iram.wf →
    x = latch s.dma ch → inRam s.cfg x.dst (x.len / 2) →
    ∃ m : Memory,
      exec (.dmaNand8 ch) s = .next
        { s with
          iram := m
          dma := s.dma.clear ch
          nandPos := s.nandPos + BitVec.ofNat 32 (2 * (x.len / 2))
          log := s.log ++ deliveredEvents s.nandCmd (2 * (x.len / 2)) } ∧ m.wf ∧
      (∀ j, j < x.len / 2 → (m.readWord (x.dst + j - s.cfg.iramBase.toNat)).toNat =
        (deliveredByte s.cfg s.nandCmd s.nandAddrHi s.nandAddrLo
          (s.nandPos + BitVec.ofNat 32 (2 * j + 1))).toNat * 256 +
        (deliveredByte s.cfg s.nandCmd s.nandAddrHi s.nandAddrLo
          (s.nandPos + BitVec.ofNat 32 (2 * j))).toNat) ∧
      ∀ n, ¬(x.dst ≤ s.cfg.iramBase.toNat + n / 2 ∧
          s.cfg.iramBase.toNat + n / 2 < x.dst + x.len / 2) →
        m.readByte n = s.iram.readByte n

/-- R172: a mode word that is none of the four: no access is made, the event is logged with the latched
parameters, the channel is cleared, no fault; so for the row itself and for every trigger of a channel that holds
such a word, `0x0000` among them. -/
def Obligations.UnhandledModeMovesNothing : Prop :=
  ∀ (s : State) (ch : Channel) (mode : Word), s.Ready →
    exec (.dmaUnhandled ch mode) s = .next
      { s with
        dma := s.dma.clear ch
        log := s.log ++ [.dmaUnhandledMode ch mode (latch s.dma ch).src (latch s.dma ch).dst
          (latch s.dma ch).len] } ∧
    (∀ ch' k, (s.dma.clear ch).get ch' k = if ch' = ch then 0 else s.dma.get ch' k) ∧
    (mode = s.dma.get ch .mode → mode ≠ 0x1089 → mode ≠ 0x0009 → mode ≠ 0x4009 → mode ≠ 0x0089 →
      ∀ i ∈ triggers ch, exec i s = exec (.dmaUnhandled ch mode) s)

/-- R266: after a trigger of a channel that ended without a fault its seven registers are zero, and a second
trigger without reprogramming runs mode `0x0000`: it moves nothing and changes nothing but the log. -/
def Obligations.SecondTriggerMovesNothing : Prop :=
  ∀ (s t : State) (ch : Channel), s.Ready → ∀ i ∈ triggers ch, exec i s = .next t → t.fault = none →
    (∀ k, t.dma.get ch k = 0) ∧
      ∀ j ∈ triggers ch, exec j t = .next { t with log := t.log ++ [.dmaUnhandledMode ch 0 0 0 0] }

/-- R177 (a): a copy of two words from internal RAM to `0x7820` writes CS[0] and CS[1] as the CPU would. -/
def Obligations.TransferReachesTheBlocksRegisters : Prop :=
  ∀ (s : State) (ch : Channel) (x : Transfer), s.Ready → s.cfg.Valid →
    x = latch s.dma ch → x.dst = 0x7820 → x.len = 2 → inRam s.cfg x.src 2 →
    exec (.dmaCopy16 ch) s = .next
      { s with
        cs := (s.cs.set .cs0 (s.iram.readWord (x.src - s.cfg.iramBase.toNat))).set .cs1
          (s.iram.readWord (x.src + 1 - s.cfg.iramBase.toNat))
        dma := s.dma.clear ch }

/-! ## Faults and whole-machine rules (60_exceptions) -/

/-- R243: with FAULT set every bus operation is refused with the recorded fault; only the reset-time
operations go on. -/
def Obligations.FaultedMachineRefusesAccesses : Prop :=
  ∀ (i : Instr) (s : State) (r : Fault), s.fault = some r → i ≠ .reset → i ≠ .bootstrapNand →
    exec i s = .fault r

/-- R68, R39: no operation but RESET and BOOTSTRAP.NAND writes the internal ROM or moves the CPU's entry
point, and none changes the configuration or the stimuli to come. -/
def Obligations.OnlyResetWritesInternalRom : Prop :=
  ∀ (i : Instr) (s t : State), exec i s = .next t →
    t.cfg = s.cfg ∧ t.input = s.input ∧
      (i ≠ .reset → i ≠ .bootstrapNand → t.irom = s.irom ∧ t.entryPc = s.entryPc)

/-- R241: the log is append-only but for reset. -/
def Obligations.LogOnlyGrows : Prop :=
  ∀ (i : Instr) (s t : State), exec i s = .next t → i ≠ .reset →
    ∃ l, t.log = s.log ++ l

/-! ## Bootstrap and reset (44_bootstrap, 70_reset_and_hazards) -/

/-- R213, R214, R215, R218: BOOTSTRAP.NAND with a block that fits: the boot words at `dest`, the eleven vector
slots, and nothing else, the registers and the NAND cursor among it. -/
def Obligations.BootstrapPlacesBlockAndVectors : Prop :=
  ∀ (s : State) (page : Byte) (dest base : Nat), s.iram.wf → s.irom.wf →
    page = imageByte s.cfg 0x15 → dest = page.toNat * 256 → base = s.cfg.iramBase.toNat →
    base ≤ dest → dest + s.cfg.initialCopyWords ≤ base + s.cfg.iramSize →
    ∃ m r : Memory, exec .bootstrapNand s = .next { s with iram := m, irom := r } ∧ m.wf ∧ r.wf ∧
      (∀ i, i < s.cfg.initialCopyWords → (m.readWord (dest - base + i)).toNat =
        (imageByte s.cfg (2 * i + 1)).toNat * 256 + (imageByte s.cfg (2 * i)).toNat) ∧
      (∀ n, ¬(dest - base ≤ n / 2 ∧ n / 2 < dest - base + s.cfg.initialCopyWords) →
        m.readByte n = s.iram.readByte n) ∧
      (∀ k, k < 11 → (r.readWord (0x7FF5 + k)).toNat =
        if k = 2 then (dest + 0x20) % 65536
        else (s.cfg.vectorBase.toNat + 0x0A + 2 * k) % 65536) ∧
      ∀ n, ¬(0x7FF5 ≤ n / 2 ∧ n / 2 ≤ 0x7FFF) → r.readByte n = s.irom.readByte n

/-- R219: a boot block outside internal RAM: the reset has no meaning, nor the bootstrap. -/
def Obligations.StrayBootBlockIsRefused : Prop :=
  ∀ (s : State) (dest : Nat), dest = (imageByte s.cfg 0x15).toNat * 256 →
    ¬(s.cfg.iramBase.toNat ≤ dest ∧
      dest + s.cfg.initialCopyWords ≤ s.cfg.iramBase.toNat + s.cfg.iramSize) →
    exec .bootstrapNand s = .refused .bootBlockOutsideRam ∧
      (s.cfg.bootSource = .nand → exec .reset s = .refused .bootBlockOutsideRam)

/-- R261 with R40 for the NAND variant: from every state, a faulted one too, RESET clears FAULT and LOG, zeroes
every register, sets the internal ROM to its image, runs the bootstrap on that, and lets the CPU read its
vector (that this word stands in `readData` is the model's choice, log 4); the stores are not touched. That the
histories of the two co-processors and the pending stimuli stay is the model's choice too (logs 26 and 3): no rule
says whether a reset reaches a co-processor. -/
def Obligations.ResetRunsTheSequence : Prop :=
  ∀ s : State, s.cfg.bootSource = .nand →
    s.cfg.iramBase.toNat ≤ (imageByte s.cfg 0x15).toNat * 256 →
    (imageByte s.cfg 0x15).toNat * 256 + s.cfg.initialCopyWords
      ≤ s.cfg.iramBase.toNat + s.cfg.iramSize →
    s.cfg.iromImage.wf →
    ∃ t, exec .bootstrapNand { s with irom := s.cfg.iromImage } = .next t ∧
      exec .reset s = .next
        { s with
          banksw := 0
          cs := ⟨0, 0, 0, 0, 0⟩
          nandCmd := 0
          nandAddrLo := 0
          nandAddrHi := 0
          nandPos := 0
          dma := ⟨.zero, .zero, .zero⟩
          dmaSrcType := 0
          phase := .idle
          fault := none
          log := []
          iram := t.iram
          irom := t.irom
          entryPc := BitVec.ofNat 16 ((imageByte s.cfg 0x15).toNat * 256 + 0x20)
          readData := BitVec.ofNat 16 ((imageByte s.cfg 0x15).toNat * 256 + 0x20) }

/-- R220 with R261: the other two boot sources place nothing; internal RAM stays and the entry point is the
image's word at `0x7FF7`. That the word stands in `readData`, and that the histories of the two co-processors and the
pending stimuli stay, is the model's choice (logs 4, 26 and 3). -/
def Obligations.OtherBootSourcesPlaceNothing : Prop :=
  ∀ s : State, s.cfg.bootSource ≠ .nand →
    exec .reset s = .next
      { s with
        banksw := 0
        cs := ⟨0, 0, 0, 0, 0⟩
        nandCmd := 0
        nandAddrLo := 0
        nandAddrHi := 0
        nandPos := 0
        dma := ⟨.zero, .zero, .zero⟩
        dmaSrcType := 0
        phase := .idle
        fault := none
        log := []
        irom := s.cfg.iromImage
        entryPc := s.cfg.iromImage.readWord 0x7FF7
        readData := s.cfg.iromImage.readWord 0x7FF7 }

/-- R40, R135: what State.reset holds: the registers, the five equal regions, a clear fault and an empty log.
Its configuration is the model's choice (log 2). -/
def Obligations.ResetStateHoldsTheResetValues : Prop :=
  (∀ i, State.reset.cs.get i = 0) ∧
    (∀ i, csStart State.reset.cs i = regionNumber i * 0x10000) ∧ csTotal State.reset.cs = 0x50000 ∧
    State.reset.banksw = 0 ∧ State.reset.nandCmd = 0 ∧ State.reset.nandAddrLo = 0 ∧
    State.reset.nandAddrHi = 0 ∧ State.reset.nandPos = 0 ∧
    (∀ ch k, State.reset.dma.get ch k = 0) ∧ State.reset.dmaSrcType = 0 ∧
    State.reset.phase = .idle ∧ State.reset.fault = none ∧ State.reset.log = [] ∧
    State.reset.entryPc = State.reset.irom.readWord 0x7FF7

/-- State.reset is what RESET makes of itself on the reference platform (log 2): the copy of 4096 words of the
absent image and the vectors give its memories exactly. -/
def Obligations.ResetLeavesTheResetState : Prop :=
  exec .reset State.reset = .next State.reset

/-! ## Decoding (30_encoding, 20_memory) -/

/-- A few words written out from R101, R105, R107 and R110: the bus triple of `WR 0x7820, 0x0147`, of
`RD 0x7854`, of `WR 0x7ABF, 0x0002` and of `RD 0xFFF7`, a mode word, an ordinal, a command byte. -/
def Obligations.SampleWordsDecode : Prop :=
  decode Config.reference (.bus 0x100007820 0x0147) = .cs0W 0x0147 ∧
    decode Config.reference (.bus 0x000007854 0) = .nanddataR ∧
    decode Config.reference (.bus 0x100007ABF 0x0002) = .dmatrigW 2 ∧
    decode Config.reference (.bus 0x00000FFF7 0) = .iromR 0xFFF7 ∧
    decode Config.reference (.dmaMode .ch1 0x4009) = .dmaCopy16b .ch1 ∧
    decode Config.reference (.trig 0x0003) = .trigCh2 ∧
    decode Config.reference (.nandCmd 0x70) = .nandStatus

/-- Every well-formed operation, with every operand the encoding admits, is read back from the bytes of its
encoding, under every valid configuration. -/
def Obligations.DecodeInvertsEncode : Prop :=
  ∀ (c : Config) (i : Instr), c.Valid → i.wf c = true →
    decodeBytes c (encode i).format (encode i).bytes = .ok i

/-- The decoder gives well-formed operations only: the address it hands an operation lies in the operation's
own range, and a catch-all row never stands for a listed word. -/
def Obligations.DecodedOperationsAreWellFormed : Prop :=
  ∀ (c : Config) (k : Code), (decode c k).wf c = true

/-- R101, R63 against R229: in the system-register block the addresses that select nothing are exactly the
ones R229 lists, and each listed register stands at exactly one address. -/
def Obligations.RegisterMapMatchesTheUnhandledList : Prop :=
  (∀ a, 0x7000 ≤ a → a ≤ 0x7FFF →
    (sysregTarget a = .unhandled ↔ Config.isUnhandled a = true)) ∧
  ∀ a b r, sysregTarget a = .reg r → sysregTarget b = .reg r → a = b

/-- R62: under a valid configuration an address of the register block goes to that block, each other range
selects its target, in whatever order they are tried, and the addresses of no range are unmapped. -/
def Obligations.AddressMapSelectsByRange : Prop :=
  ∀ (c : Config) (a : Addr), c.Valid →
    (0x7000 ≤ a.toNat ∧ a.toNat ≤ 0x7FFF → busTarget c a = sysregTarget a.toNat) ∧
    (busTarget c a = .video ∨ busTarget c a = .audio ∨ (∃ r, busTarget c a = .reg r) ∨
      busTarget c a = .unhandled ↔ 0x7000 ≤ a.toNat ∧ a.toNat ≤ 0x7FFF) ∧
    (busTarget c a = .iram ↔ c.inIram a.toNat = true) ∧
    (busTarget c a = .irom ↔ c.inIrom a.toNat = true) ∧
    (busTarget c a = .direct ↔ c.inDirect a.toNat = true) ∧
    (busTarget c a = .banked ↔ c.inBanked a.toNat = true) ∧
    (busTarget c a = .unmapped ↔ c.isUnmapped a.toNat = true)

/-- R61, R64, R65: one decoder for both initiators. The operation decoded from a bus access by the CPU is the bus
primitive; the engine's write is the CPU's wherever the address does not select the trigger register, where it is
refused (R175); and a copy of one word by the engine is the CPU's read followed by the CPU's write, from any address
to any other than that register, with the channel cleared. -/
def Obligations.CpuAccessesAreTheBusPrimitives : Prop :=
  ∀ (s : State) (a : Addr) (v : Word),
    exec (decodeBus s.cfg (busSel false a) v) s = cpuRead (busRead a) s ∧
      exec (decodeBus s.cfg (busSel true a) v) s = cpuWrite (busWrite a v) s ∧
      (busTarget s.cfg a ≠ .reg .dmaStatus → engineWrite a v s = busWrite a v s) ∧
      (busTarget s.cfg a = .reg .dmaStatus → engineWrite a v s = raise (.dmaNestedTrigger v) s) ∧
      ∀ (ch : Channel) (x : Transfer), s.Ready → x = latch s.dma ch → x.len = 1 →
        busTarget s.cfg (BitVec.ofNat 32 x.dst) ≠ .reg .dmaStatus →
        exec (.dmaCopy16 ch) s = .next
          ((busWrite (BitVec.ofNat 32 x.dst) (busRead (BitVec.ofNat 32 x.src) s).1
            (busRead (BitVec.ofNat 32 x.src) s).2).clearDma ch)

/-! ## The step -/

/-- The step takes the next stimulus and runs the operation decoded from it; with none pending it idles (the
model's choice, log 3); a configuration that breaks the constraints is refused (R11). -/
def Obligations.StepRunsTheDecodedOperation : Prop :=
  ∀ s : State,
    (s.cfg.Valid →
      (∀ x rest, s.input = x :: rest →
        step s = exec (decode s.cfg x.code) { s with input := rest }) ∧
      (s.input = [] → step s = .next s)) ∧
    (¬s.cfg.Valid → step s = .refused .badConfiguration)

/-- Every step keeps the invariant: the engine Idle between operations, every memory canonical, internal RAM and
ROM within their ranges, and the internal ROM equal to its image below the eleven vector words. -/
def Obligations.StepKeepsTheInvariant : Prop :=
  ∀ s t : State, s.Inv → step s = .next t → t.Inv

/-- State.reset meets the invariant. -/
def Obligations.ResetStateMeetsTheInvariant : Prop := State.reset.Inv
end

