-- ==== Sys2Proof/Laws/Memory.lean ====
section
/-! SUPPORT. The laws of memory: a read after a write, and that every write keeps the canonical form. -/

namespace Sys2Proof

theorem Memory.wf_nil : Memory.wf [] := ⟨List.Pairwise.nil, by simp⟩

theorem Memory.wf_tail {k : Nat} {b : Byte} {m : Memory} (h : Memory.wf ((k, b) :: m)) : m.wf :=
  ⟨(List.pairwise_cons.mp h.1).2, fun c hc => h.2 c (List.mem_cons_of_mem _ hc)⟩

theorem Memory.wf_head {k : Nat} {b : Byte} {m : Memory} (h : Memory.wf ((k, b) :: m)) :
    ∀ c ∈ m, k < c.1 :=
  (List.pairwise_cons.mp h.1).1

/-- A byte below every listed one reads as blank. -/
theorem Memory.readByte_below {m : Memory} {a : Nat} (h : ∀ c ∈ m, a < c.1) :
    m.readByte a = Memory.blank := by
  induction m with
  | nil => rfl
  | cons c m ih =>
    obtain ⟨k, b⟩ := c
    have hk := h (k, b) (List.mem_cons_self ..)
    simp only [Memory.readByte]
    rw [if_neg (by simp only at hk; omega)]
    exact ih fun c hc => h c (List.mem_cons_of_mem _ hc)

/-- A cell that a write leaves is one it found or the one it wrote. -/
theorem Memory.mem_writeByte {m : Memory} {a : Nat} {b : Byte} {c : Host.Cell}
    (h : c ∈ m.writeByte a b) : c ∈ m ∨ (c = (a, b) ∧ b ≠ Memory.blank) := by
  induction m with
  | nil =>
    simp only [Memory.writeByte] at h
    split at h
    · cases h
    · exact .inr ⟨by simpa using h, ‹_›⟩
  | cons d m ih =>
    obtain ⟨k, e⟩ := d
    simp only [Memory.writeByte] at h
    split at h
    · split at h
      · exact .inl h
      · rcases List.mem_cons.mp h with h | h
        · exact .inr ⟨h, ‹_›⟩
        · exact .inl h
    · split at h
      · split at h
        · exact .inl (List.mem_cons_of_mem _ h)
        · rcases List.mem_cons.mp h with h | h
          · exact .inr ⟨h, ‹_›⟩
          · exact .inl (List.mem_cons_of_mem _ h)
      · rcases List.mem_cons.mp h with h | h
        · exact .inl (h ▸ List.mem_cons_self ..)
        · exact (ih h).imp_left (List.mem_cons_of_mem _)

theorem Memory.writeByte_wf {m : Memory} (h : m.wf) (a : Nat) (b : Byte) : (m.writeByte a b).wf := by
  induction m with
  | nil =>
    simp only [Memory.writeByte]
    split
    · exact Memory.wf_nil
    · exact ⟨by simp, by simpa⟩
  | cons d m ih =>
    obtain ⟨k, e⟩ := d
    have ht := Memory.wf_tail h
    have hh := Memory.wf_head h
    have he : e ≠ Memory.blank := h.2 (k, e) (List.mem_cons_self ..)
    simp only [Memory.writeByte]
    split
    · split
      · exact h
      · refine ⟨List.pairwise_cons.mpr ⟨fun c hc => ?_, h.1⟩, fun c hc => ?_⟩
        · rcases List.mem_cons.mp hc with rfl | hc
          · assumption
          · have := hh c hc; simp only; omega
        · rcases List.mem_cons.mp hc with rfl | hc
          · assumption
          · exact h.2 c hc
    · split
      · split
        · exact ht
        · refine ⟨List.pairwise_cons.mpr ⟨fun c hc => ?_, ht.1⟩, fun c hc => ?_⟩
          · have := hh c hc; simp only; omega
          · rcases List.mem_cons.mp hc with rfl | hc
            · assumption
            · exact ht.2 c hc
      · refine ⟨List.pairwise_cons.mpr ⟨fun c hc => ?_, (ih ht).1⟩, fun c hc => ?_⟩
        · rcases Memory.mem_writeByte hc with hc | ⟨rfl, -⟩
          · exact hh c hc
          · simp only; omega
        · rcases List.mem_cons.mp hc with rfl | hc
          · exact he
          · exact (ih ht).2 c hc

theorem Memory.readByte_writeByte_other (m : Memory) {a a' : Nat} (b : Byte) (h : a' ≠ a) :
    (m.writeByte a b).readByte a' = m.readByte a' := by
  induction m with
  | nil =>
    simp only [Memory.writeByte]
    split
    · rfl
    · simp [Memory.readByte, h.symm]
  | cons d m ih =>
    obtain ⟨k, e⟩ := d
    simp only [Memory.writeByte]
    split
    · split
      · rfl
      · simp [Memory.readByte, h.symm]
    · split
      · subst ‹a = k›
        split
        · simp [Memory.readByte, h.symm]
        · simp [Memory.readByte, h.symm]
      · simp only [Memory.readByte, ih]

theorem Memory.readByte_writeByte_same {m : Memory} (h : m.wf) (a : Nat) (b : Byte) :
    (m.writeByte a b).readByte a = b := by
  induction m with
  | nil =>
    simp only [Memory.writeByte]
    split
    · simp_all [Memory.readByte]
    · simp [Memory.readByte]
  | cons d m ih =>
    obtain ⟨k, e⟩ := d
    have hh := Memory.wf_head h
    simp only [Memory.writeByte]
    split
    · split
      · subst ‹b = Memory.blank›
        refine Memory.readByte_below fun c hc => ?_
        rcases List.mem_cons.mp hc with rfl | hc
        · assumption
        · have := hh c hc; omega
      · simp [Memory.readByte]
    · split
      · subst ‹a = k›
        split
        · subst ‹b = Memory.blank›
          exact Memory.readByte_below hh
        · simp [Memory.readByte]
      · have hne : k ≠ a := fun hk => ‹¬a = k› hk.symm
        simp only [Memory.readByte, if_neg hne]
        exact ih (Memory.wf_tail h)

theorem Memory.writeByte_within {m : Memory} {size a : Nat} (h : m.within size) (ha : a < 2 * size)
    (b : Byte) : (m.writeByte a b).within size := fun c hc => by
  rcases Memory.mem_writeByte hc with hc | ⟨rfl, -⟩
  · exact h c hc
  · exact ha

/-- A byte past the listed range reads as blank. -/
theorem Memory.readByte_beyond {m : Memory} {size a : Nat} (h : m.within size) (ha : 2 * size ≤ a) :
    m.readByte a = Memory.blank := by
  induction m with
  | nil => rfl
  | cons c m ih =>
    obtain ⟨k, b⟩ := c
    have hk := h (k, b) (List.mem_cons_self ..)
    simp only [Memory.readByte]
    rw [if_neg (by simp only at hk; omega)]
    exact ih fun c hc => h c (List.mem_cons_of_mem _ hc)

/-! ## Words -/

@[simp] theorem Machine.packBytes_split (v : Word) :
    Machine.packBytes (Machine.lowByte v) (Machine.highByte v) = v := by
  simp only [Machine.packBytes, Machine.lowByte, Machine.highByte]
  ext i hi
  simp only [BitVec.getElem_append, BitVec.getElem_extractLsb']
  split <;> (rw [← BitVec.getLsbD_eq_getElem]; congr 1; omega)

@[simp] theorem Machine.lowByte_packBytes (l u : Byte) :
    Machine.lowByte (Machine.packBytes l u) = l := by
  simp only [Machine.packBytes, Machine.lowByte]
  ext i hi
  have h := BitVec.getLsbD_append (x := u) (y := l) (i := i)
  rw [if_pos hi] at h
  rw [BitVec.getElem_extractLsb', Nat.zero_add]
  exact h.trans (BitVec.getLsbD_eq_getElem hi)

@[simp] theorem Machine.highByte_packBytes (l u : Byte) :
    Machine.highByte (Machine.packBytes l u) = u := by
  simp only [Machine.packBytes, Machine.highByte]
  ext i hi
  have h := BitVec.getLsbD_append (x := u) (y := l) (i := 8 + i)
  rw [if_neg (by omega), Nat.add_sub_cancel_left] at h
  rw [BitVec.getElem_extractLsb']
  exact h.trans (BitVec.getLsbD_eq_getElem hi)

@[simp] theorem Machine.lowByte_byteWord (b : Byte) : Machine.lowByte (Machine.byteWord b) = b := by
  simp only [Machine.byteWord, Machine.lowByte]
  ext i hi
  rw [BitVec.getElem_extractLsb', Nat.zero_add, BitVec.getLsbD_setWidth,
    decide_eq_true (by omega : i < 16), Bool.true_and, BitVec.getLsbD_eq_getElem hi]

theorem Memory.writeWord_wf {m : Memory} (h : m.wf) (a : Nat) (v : Word) : (m.writeWord a v).wf :=
  Memory.writeByte_wf (Memory.writeByte_wf h _ _) _ _

theorem Memory.writeWord_within {m : Memory} {size a : Nat} (h : m.within size) (ha : a < size)
    (v : Word) : (m.writeWord a v).within size :=
  Memory.writeByte_within (Memory.writeByte_within h (by omega) _) (by omega) _

theorem Memory.readWord_writeWord_same {m : Memory} (h : m.wf) (a : Nat) (v : Word) :
    (m.writeWord a v).readWord a = v := by
  simp only [Memory.readWord, Memory.writeWord]
  rw [Memory.readByte_writeByte_other _ _ (by omega : 2 * a ≠ 2 * a + 1),
    Memory.readByte_writeByte_same h, Memory.readByte_writeByte_same (Memory.writeByte_wf h _ _)]
  exact Machine.packBytes_split v

theorem Memory.readWord_writeWord_other (m : Memory) {a a' : Nat} (v : Word) (h : a' ≠ a) :
    (m.writeWord a v).readWord a' = m.readWord a' := by
  simp only [Memory.readWord, Memory.writeWord]
  rw [Memory.readByte_writeByte_other _ _ (by omega), Memory.readByte_writeByte_other _ _ (by omega),
    Memory.readByte_writeByte_other _ _ (by omega), Memory.readByte_writeByte_other _ _ (by omega)]

/-- Every byte outside the two of word `a` is left as it was. -/
theorem Memory.readByte_writeWord_other (m : Memory) {a n : Nat} (v : Word) (h : n / 2 ≠ a) :
    (m.writeWord a v).readByte n = m.readByte n := by
  simp only [Memory.writeWord]
  rw [Memory.readByte_writeByte_other _ _ (by omega), Memory.readByte_writeByte_other _ _ (by omega)]

/-- Two memories in canonical form that read alike are equal data. -/
theorem Memory.ext_of_wf {m n : Memory} (hm : m.wf) (hn : n.wf)
    (h : ∀ a, m.readByte a = n.readByte a) : m = n := by
  induction m generalizing n with
  | nil =>
    cases n with
    | nil => rfl
    | cons d n =>
      obtain ⟨k, e⟩ := d
      have := h k
      simp only [Memory.readByte, ↓reduceIte] at this
      exact absurd this.symm (hn.2 _ (List.mem_cons_self ..))
  | cons c m ih =>
    obtain ⟨k, b⟩ := c
    have hmh := Memory.wf_head hm
    have hb : b ≠ Memory.blank := hm.2 (k, b) (List.mem_cons_self ..)
    cases n with
    | nil =>
      have := h k
      simp only [Memory.readByte, ↓reduceIte] at this
      exact absurd this hb
    | cons d n =>
      obtain ⟨l, e⟩ := d
      have hnh := Memory.wf_head hn
      have he : e ≠ Memory.blank := hn.2 (l, e) (List.mem_cons_self ..)
      have hkl : k = l := by
        rcases Nat.lt_trichotomy k l with hlt | heq | hgt
        · have := h k
          rw [Memory.readByte_below (m := (l, e) :: n) (by
            intro c hc
            rcases List.mem_cons.mp hc with rfl | hc
            · exact hlt
            · exact Nat.lt_trans hlt (hnh c hc))] at this
          simp only [Memory.readByte, ↓reduceIte] at this
          exact absurd this hb
        · exact heq
        · have := h l
          rw [Memory.readByte_below (m := (k, b) :: m) (by
            intro c hc
            rcases List.mem_cons.mp hc with rfl | hc
            · exact hgt
            · exact Nat.lt_trans hgt (hmh c hc))] at this
          simp only [Memory.readByte, ↓reduceIte] at this
          exact absurd this.symm he
      subst hkl
      have hbe : b = e := by simpa [Memory.readByte] using h k
      subst hbe
      refine congrArg _ (ih (Memory.wf_tail hm) (Memory.wf_tail hn) fun a => ?_)
      by_cases hak : a = k
      · subst hak
        rw [Memory.readByte_below hmh, Memory.readByte_below hnh]
      · have := h a
        simpa [Memory.readByte, Ne.symm hak] using this

end Sys2Proof
end

