-- ==== Sys2Proof/Laws/Operands.lean ====
section
/-! SUPPORT. The numbers behind the operand assembly of Machine/Operands.lean, one lemma a function. -/

namespace Sys2Proof.Machine

theorem highByte_toNat (w : Word) : (highByte w).toNat = w.toNat / 256 := by
  have := w.isLt
  simp only [highByte, BitVec.extractLsb'_toNat, Nat.shiftRight_eq_div_pow]
  omega

theorem lowByte_toNat (w : Word) : (lowByte w).toNat = w.toNat % 256 := by
  simp [lowByte]

theorem packBytes_toNat (lower upper : Byte) :
    (packBytes lower upper).toNat = upper.toNat * 256 + lower.toNat := by
  have := lower.isLt
  unfold packBytes
  rw [BitVec.toNat_append, ← Nat.shiftLeft_add_eq_or_of_lt (by omega), Nat.shiftLeft_eq]

theorem bankIndex_toNat (b : Word) : bankIndex b = b.toNat % 64 := by
  simp [bankIndex]

/-- Two words as a 32-bit number, the first the high half. -/
theorem append_toNat (hi lo : Word) : (hi ++ lo : BitVec 32).toNat = hi.toNat * 65536 + lo.toNat := by
  have := lo.isLt
  rw [BitVec.toNat_append, ← Nat.shiftLeft_add_eq_or_of_lt (by omega), Nat.shiftLeft_eq]

theorem quantity28_eq (hi lo : Word) : quantity28 hi lo = hi.toNat % 4096 * 65536 + lo.toNat := by
  have := lo.isLt
  have := hi.isLt
  unfold quantity28
  rw [BitVec.toNat_and, append_toNat, show (0x0FFFFFFF : BitVec 32).toNat = 2 ^ 28 - 1 from rfl,
    Nat.and_two_pow_sub_one_eq_mod]
  omega

theorem quantity28_lt (hi lo : Word) : quantity28 hi lo < 2 ^ 28 := by
  have := lo.isLt
  rw [quantity28_eq]
  omega

/-- The latched addresses and the length are 28-bit numbers, so no running address wraps (42_dma R178). -/
theorem latch_lt (d : DmaRegs) (ch : Channel) :
    (latch d ch).src < 2 ^ 28 ∧ (latch d ch).dst < 2 ^ 28 ∧ (latch d ch).len < 2 ^ 28 :=
  ⟨quantity28_lt .., quantity28_lt .., quantity28_lt ..⟩

theorem nandOffset_eq (hi lo : Word) (p : BitVec 32) :
    nandOffset hi lo p = (hi.toNat * 65536 + lo.toNat) * 2 + p.toNat := by
  rw [nandOffset, append_toNat]

theorem bootDest_toNat (page : Byte) : (bootDest page).toNat = page.toNat * 256 := by
  unfold bootDest
  rw [BitVec.toNat_append, Nat.shiftLeft_eq]
  simp

theorem addr_toNat {n : Nat} (h : n < 2 ^ 32) : (BitVec.ofNat 32 n : Addr).toNat = n := by
  rw [BitVec.toNat_ofNat]
  omega

end Sys2Proof.Machine
end

