-- ==== Sys2Proof/Laws/State.lean ====
section
/-! SUPPORT. What each field holds after each update, one lemma a field and update, true by rfl, so that
no later proof unfolds a record update; and the reads of the per-region and per-channel records after a
write. -/

namespace Sys2Proof.Machine.State

@[simp] theorem setBanksw_cfg (s : State) (v : Word) : (s.setBanksw v).cfg = s.cfg := rfl
@[simp] theorem setBanksw_banksw (s : State) (v : Word) : (s.setBanksw v).banksw = v := rfl
@[simp] theorem setBanksw_cs (s : State) (v : Word) : (s.setBanksw v).cs = s.cs := rfl
@[simp] theorem setBanksw_nandCmd (s : State) (v : Word) : (s.setBanksw v).nandCmd = s.nandCmd := rfl
@[simp] theorem setBanksw_nandAddrLo (s : State) (v : Word) : (s.setBanksw v).nandAddrLo = s.nandAddrLo := rfl
@[simp] theorem setBanksw_nandAddrHi (s : State) (v : Word) : (s.setBanksw v).nandAddrHi = s.nandAddrHi := rfl
@[simp] theorem setBanksw_nandPos (s : State) (v : Word) : (s.setBanksw v).nandPos = s.nandPos := rfl
@[simp] theorem setBanksw_dma (s : State) (v : Word) : (s.setBanksw v).dma = s.dma := rfl
@[simp] theorem setBanksw_dmaSrcType (s : State) (v : Word) : (s.setBanksw v).dmaSrcType = s.dmaSrcType := rfl
@[simp] theorem setBanksw_phase (s : State) (v : Word) : (s.setBanksw v).phase = s.phase := rfl
@[simp] theorem setBanksw_iram (s : State) (v : Word) : (s.setBanksw v).iram = s.iram := rfl
@[simp] theorem setBanksw_irom (s : State) (v : Word) : (s.setBanksw v).irom = s.irom := rfl
@[simp] theorem setBanksw_slots (s : State) (v : Word) : (s.setBanksw v).slots = s.slots := rfl
@[simp] theorem setBanksw_video (s : State) (v : Word) : (s.setBanksw v).video = s.video := rfl
@[simp] theorem setBanksw_audio (s : State) (v : Word) : (s.setBanksw v).audio = s.audio := rfl
@[simp] theorem setBanksw_fault (s : State) (v : Word) : (s.setBanksw v).fault = s.fault := rfl
@[simp] theorem setBanksw_log (s : State) (v : Word) : (s.setBanksw v).log = s.log := rfl
@[simp] theorem setBanksw_entryPc (s : State) (v : Word) : (s.setBanksw v).entryPc = s.entryPc := rfl
@[simp] theorem setBanksw_readData (s : State) (v : Word) : (s.setBanksw v).readData = s.readData := rfl
@[simp] theorem setBanksw_input (s : State) (v : Word) : (s.setBanksw v).input = s.input := rfl

@[simp] theorem setCs_cfg (s : State) (i : CsIndex) (v : Word) : (s.setCs i v).cfg = s.cfg := rfl
@[simp] theorem setCs_banksw (s : State) (i : CsIndex) (v : Word) : (s.setCs i v).banksw = s.banksw := rfl
@[simp] theorem setCs_cs (s : State) (i : CsIndex) (v : Word) : (s.setCs i v).cs = s.cs.set i v := rfl
@[simp] theorem setCs_nandCmd (s : State) (i : CsIndex) (v : Word) : (s.setCs i v).nandCmd = s.nandCmd := rfl
@[simp] theorem setCs_nandAddrLo (s : State) (i : CsIndex) (v : Word) : (s.setCs i v).nandAddrLo = s.nandAddrLo := rfl
@[simp] theorem setCs_nandAddrHi (s : State) (i : CsIndex) (v : Word) : (s.setCs i v).nandAddrHi = s.nandAddrHi := rfl
@[simp] theorem setCs_nandPos (s : State) (i : CsIndex) (v : Word) : (s.setCs i v).nandPos = s.nandPos := rfl
@[simp] theorem setCs_dma (s : State) (i : CsIndex) (v : Word) : (s.setCs i v).dma = s.dma := rfl
@[simp] theorem setCs_dmaSrcType (s : State) (i : CsIndex) (v : Word) : (s.setCs i v).dmaSrcType = s.dmaSrcType := rfl
@[simp] theorem setCs_phase (s : State) (i : CsIndex) (v : Word) : (s.setCs i v).phase = s.phase := rfl
@[simp] theorem setCs_iram (s : State) (i : CsIndex) (v : Word) : (s.setCs i v).iram = s.iram := rfl
@[simp] theorem setCs_irom (s : State) (i : CsIndex) (v : Word) : (s.setCs i v).irom = s.irom := rfl
@[simp] theorem setCs_slots (s : State) (i : CsIndex) (v : Word) : (s.setCs i v).slots = s.slots := rfl
@[simp] theorem setCs_video (s : State) (i : CsIndex) (v : Word) : (s.setCs i v).video = s.video := rfl
@[simp] theorem setCs_audio (s : State) (i : CsIndex) (v : Word) : (s.setCs i v).audio = s.audio := rfl
@[simp] theorem setCs_fault (s : State) (i : CsIndex) (v : Word) : (s.setCs i v).fault = s.fault := rfl
@[simp] theorem setCs_log (s : State) (i : CsIndex) (v : Word) : (s.setCs i v).log = s.log := rfl
@[simp] theorem setCs_entryPc (s : State) (i : CsIndex) (v : Word) : (s.setCs i v).entryPc = s.entryPc := rfl
@[simp] theorem setCs_readData (s : State) (i : CsIndex) (v : Word) : (s.setCs i v).readData = s.readData := rfl
@[simp] theorem setCs_input (s : State) (i : CsIndex) (v : Word) : (s.setCs i v).input = s.input := rfl

@[simp] theorem setNandCmd_cfg (s : State) (b : Byte) : (s.setNandCmd b).cfg = s.cfg := rfl
@[simp] theorem setNandCmd_banksw (s : State) (b : Byte) : (s.setNandCmd b).banksw = s.banksw := rfl
@[simp] theorem setNandCmd_cs (s : State) (b : Byte) : (s.setNandCmd b).cs = s.cs := rfl
@[simp] theorem setNandCmd_nandCmd (s : State) (b : Byte) : (s.setNandCmd b).nandCmd = b := rfl
@[simp] theorem setNandCmd_nandAddrLo (s : State) (b : Byte) : (s.setNandCmd b).nandAddrLo = s.nandAddrLo := rfl
@[simp] theorem setNandCmd_nandAddrHi (s : State) (b : Byte) : (s.setNandCmd b).nandAddrHi = s.nandAddrHi := rfl
@[simp] theorem setNandCmd_nandPos (s : State) (b : Byte) : (s.setNandCmd b).nandPos = s.nandPos := rfl
@[simp] theorem setNandCmd_dma (s : State) (b : Byte) : (s.setNandCmd b).dma = s.dma := rfl
@[simp] theorem setNandCmd_dmaSrcType (s : State) (b : Byte) : (s.setNandCmd b).dmaSrcType = s.dmaSrcType := rfl
@[simp] theorem setNandCmd_phase (s : State) (b : Byte) : (s.setNandCmd b).phase = s.phase := rfl
@[simp] theorem setNandCmd_iram (s : State) (b : Byte) : (s.setNandCmd b).iram = s.iram := rfl
@[simp] theorem setNandCmd_irom (s : State) (b : Byte) : (s.setNandCmd b).irom = s.irom := rfl
@[simp] theorem setNandCmd_slots (s : State) (b : Byte) : (s.setNandCmd b).slots = s.slots := rfl
@[simp] theorem setNandCmd_video (s : State) (b : Byte) : (s.setNandCmd b).video = s.video := rfl
@[simp] theorem setNandCmd_audio (s : State) (b : Byte) : (s.setNandCmd b).audio = s.audio := rfl
@[simp] theorem setNandCmd_fault (s : State) (b : Byte) : (s.setNandCmd b).fault = s.fault := rfl
@[simp] theorem setNandCmd_log (s : State) (b : Byte) : (s.setNandCmd b).log = s.log := rfl
@[simp] theorem setNandCmd_entryPc (s : State) (b : Byte) : (s.setNandCmd b).entryPc = s.entryPc := rfl
@[simp] theorem setNandCmd_readData (s : State) (b : Byte) : (s.setNandCmd b).readData = s.readData := rfl
@[simp] theorem setNandCmd_input (s : State) (b : Byte) : (s.setNandCmd b).input = s.input := rfl

@[simp] theorem setNandAddrLo_cfg (s : State) (v : Word) : (s.setNandAddrLo v).cfg = s.cfg := rfl
@[simp] theorem setNandAddrLo_banksw (s : State) (v : Word) : (s.setNandAddrLo v).banksw = s.banksw := rfl
@[simp] theorem setNandAddrLo_cs (s : State) (v : Word) : (s.setNandAddrLo v).cs = s.cs := rfl
@[simp] theorem setNandAddrLo_nandCmd (s : State) (v : Word) : (s.setNandAddrLo v).nandCmd = s.nandCmd := rfl
@[simp] theorem setNandAddrLo_nandAddrLo (s : State) (v : Word) : (s.setNandAddrLo v).nandAddrLo = v := rfl
@[simp] theorem setNandAddrLo_nandAddrHi (s : State) (v : Word) : (s.setNandAddrLo v).nandAddrHi = s.nandAddrHi := rfl
@[simp] theorem setNandAddrLo_nandPos (s : State) (v : Word) : (s.setNandAddrLo v).nandPos = s.nandPos := rfl
@[simp] theorem setNandAddrLo_dma (s : State) (v : Word) : (s.setNandAddrLo v).dma = s.dma := rfl
@[simp] theorem setNandAddrLo_dmaSrcType (s : State) (v : Word) : (s.setNandAddrLo v).dmaSrcType = s.dmaSrcType := rfl
@[simp] theorem setNandAddrLo_phase (s : State) (v : Word) : (s.setNandAddrLo v).phase = s.phase := rfl
@[simp] theorem setNandAddrLo_iram (s : State) (v : Word) : (s.setNandAddrLo v).iram = s.iram := rfl
@[simp] theorem setNandAddrLo_irom (s : State) (v : Word) : (s.setNandAddrLo v).irom = s.irom := rfl
@[simp] theorem setNandAddrLo_slots (s : State) (v : Word) : (s.setNandAddrLo v).slots = s.slots := rfl
@[simp] theorem setNandAddrLo_video (s : State) (v : Word) : (s.setNandAddrLo v).video = s.video := rfl
@[simp] theorem setNandAddrLo_audio (s : State) (v : Word) : (s.setNandAddrLo v).audio = s.audio := rfl
@[simp] theorem setNandAddrLo_fault (s : State) (v : Word) : (s.setNandAddrLo v).fault = s.fault := rfl
@[simp] theorem setNandAddrLo_log (s : State) (v : Word) : (s.setNandAddrLo v).log = s.log := rfl
@[simp] theorem setNandAddrLo_entryPc (s : State) (v : Word) : (s.setNandAddrLo v).entryPc = s.entryPc := rfl
@[simp] theorem setNandAddrLo_readData (s : State) (v : Word) : (s.setNandAddrLo v).readData = s.readData := rfl
@[simp] theorem setNandAddrLo_input (s : State) (v : Word) : (s.setNandAddrLo v).input = s.input := rfl

@[simp] theorem setNandAddrHi_cfg (s : State) (v : Word) : (s.setNandAddrHi v).cfg = s.cfg := rfl
@[simp] theorem setNandAddrHi_banksw (s : State) (v : Word) : (s.setNandAddrHi v).banksw = s.banksw := rfl
@[simp] theorem setNandAddrHi_cs (s : State) (v : Word) : (s.setNandAddrHi v).cs = s.cs := rfl
@[simp] theorem setNandAddrHi_nandCmd (s : State) (v : Word) : (s.setNandAddrHi v).nandCmd = s.nandCmd := rfl
@[simp] theorem setNandAddrHi_nandAddrLo (s : State) (v : Word) : (s.setNandAddrHi v).nandAddrLo = s.nandAddrLo := rfl
@[simp] theorem setNandAddrHi_nandAddrHi (s : State) (v : Word) : (s.setNandAddrHi v).nandAddrHi = v := rfl
@[simp] theorem setNandAddrHi_nandPos (s : State) (v : Word) : (s.setNandAddrHi v).nandPos = s.nandPos := rfl
@[simp] theorem setNandAddrHi_dma (s : State) (v : Word) : (s.setNandAddrHi v).dma = s.dma := rfl
@[simp] theorem setNandAddrHi_dmaSrcType (s : State) (v : Word) : (s.setNandAddrHi v).dmaSrcType = s.dmaSrcType := rfl
@[simp] theorem setNandAddrHi_phase (s : State) (v : Word) : (s.setNandAddrHi v).phase = s.phase := rfl
@[simp] theorem setNandAddrHi_iram (s : State) (v : Word) : (s.setNandAddrHi v).iram = s.iram := rfl
@[simp] theorem setNandAddrHi_irom (s : State) (v : Word) : (s.setNandAddrHi v).irom = s.irom := rfl
@[simp] theorem setNandAddrHi_slots (s : State) (v : Word) : (s.setNandAddrHi v).slots = s.slots := rfl
@[simp] theorem setNandAddrHi_video (s : State) (v : Word) : (s.setNandAddrHi v).video = s.video := rfl
@[simp] theorem setNandAddrHi_audio (s : State) (v : Word) : (s.setNandAddrHi v).audio = s.audio := rfl
@[simp] theorem setNandAddrHi_fault (s : State) (v : Word) : (s.setNandAddrHi v).fault = s.fault := rfl
@[simp] theorem setNandAddrHi_log (s : State) (v : Word) : (s.setNandAddrHi v).log = s.log := rfl
@[simp] theorem setNandAddrHi_entryPc (s : State) (v : Word) : (s.setNandAddrHi v).entryPc = s.entryPc := rfl
@[simp] theorem setNandAddrHi_readData (s : State) (v : Word) : (s.setNandAddrHi v).readData = s.readData := rfl
@[simp] theorem setNandAddrHi_input (s : State) (v : Word) : (s.setNandAddrHi v).input = s.input := rfl

@[simp] theorem setNandPos_cfg (s : State) (p : BitVec 32) : (s.setNandPos p).cfg = s.cfg := rfl
@[simp] theorem setNandPos_banksw (s : State) (p : BitVec 32) : (s.setNandPos p).banksw = s.banksw := rfl
@[simp] theorem setNandPos_cs (s : State) (p : BitVec 32) : (s.setNandPos p).cs = s.cs := rfl
@[simp] theorem setNandPos_nandCmd (s : State) (p : BitVec 32) : (s.setNandPos p).nandCmd = s.nandCmd := rfl
@[simp] theorem setNandPos_nandAddrLo (s : State) (p : BitVec 32) : (s.setNandPos p).nandAddrLo = s.nandAddrLo := rfl
@[simp] theorem setNandPos_nandAddrHi (s : State) (p : BitVec 32) : (s.setNandPos p).nandAddrHi = s.nandAddrHi := rfl
@[simp] theorem setNandPos_nandPos (s : State) (p : BitVec 32) : (s.setNandPos p).nandPos = p := rfl
@[simp] theorem setNandPos_dma (s : State) (p : BitVec 32) : (s.setNandPos p).dma = s.dma := rfl
@[simp] theorem setNandPos_dmaSrcType (s : State) (p : BitVec 32) : (s.setNandPos p).dmaSrcType = s.dmaSrcType := rfl
@[simp] theorem setNandPos_phase (s : State) (p : BitVec 32) : (s.setNandPos p).phase = s.phase := rfl
@[simp] theorem setNandPos_iram (s : State) (p : BitVec 32) : (s.setNandPos p).iram = s.iram := rfl
@[simp] theorem setNandPos_irom (s : State) (p : BitVec 32) : (s.setNandPos p).irom = s.irom := rfl
@[simp] theorem setNandPos_slots (s : State) (p : BitVec 32) : (s.setNandPos p).slots = s.slots := rfl
@[simp] theorem setNandPos_video (s : State) (p : BitVec 32) : (s.setNandPos p).video = s.video := rfl
@[simp] theorem setNandPos_audio (s : State) (p : BitVec 32) : (s.setNandPos p).audio = s.audio := rfl
@[simp] theorem setNandPos_fault (s : State) (p : BitVec 32) : (s.setNandPos p).fault = s.fault := rfl
@[simp] theorem setNandPos_log (s : State) (p : BitVec 32) : (s.setNandPos p).log = s.log := rfl
@[simp] theorem setNandPos_entryPc (s : State) (p : BitVec 32) : (s.setNandPos p).entryPc = s.entryPc := rfl
@[simp] theorem setNandPos_readData (s : State) (p : BitVec 32) : (s.setNandPos p).readData = s.readData := rfl
@[simp] theorem setNandPos_input (s : State) (p : BitVec 32) : (s.setNandPos p).input = s.input := rfl

@[simp] theorem setDma_cfg (s : State) (ch : Channel) (k : DmaReg) (v : Word) : (s.setDma ch k v).cfg = s.cfg := rfl
@[simp] theorem setDma_banksw (s : State) (ch : Channel) (k : DmaReg) (v : Word) : (s.setDma ch k v).banksw = s.banksw := rfl
@[simp] theorem setDma_cs (s : State) (ch : Channel) (k : DmaReg) (v : Word) : (s.setDma ch k v).cs = s.cs := rfl
@[simp] theorem setDma_nandCmd (s : State) (ch : Channel) (k : DmaReg) (v : Word) : (s.setDma ch k v).nandCmd = s.nandCmd := rfl
@[simp] theorem setDma_nandAddrLo (s : State) (ch : Channel) (k : DmaReg) (v : Word) : (s.setDma ch k v).nandAddrLo = s.nandAddrLo := rfl
@[simp] theorem setDma_nandAddrHi (s : State) (ch : Channel) (k : DmaReg) (v : Word) : (s.setDma ch k v).nandAddrHi = s.nandAddrHi := rfl
@[simp] theorem setDma_nandPos (s : State) (ch : Channel) (k : DmaReg) (v : Word) : (s.setDma ch k v).nandPos = s.nandPos := rfl
@[simp] theorem setDma_dma (s : State) (ch : Channel) (k : DmaReg) (v : Word) : (s.setDma ch k v).dma = s.dma.set ch k v := rfl
@[simp] theorem setDma_dmaSrcType (s : State) (ch : Channel) (k : DmaReg) (v : Word) : (s.setDma ch k v).dmaSrcType = s.dmaSrcType := rfl
@[simp] theorem setDma_phase (s : State) (ch : Channel) (k : DmaReg) (v : Word) : (s.setDma ch k v).phase = s.phase := rfl
@[simp] theorem setDma_iram (s : State) (ch : Channel) (k : DmaReg) (v : Word) : (s.setDma ch k v).iram = s.iram := rfl
@[simp] theorem setDma_irom (s : State) (ch : Channel) (k : DmaReg) (v : Word) : (s.setDma ch k v).irom = s.irom := rfl
@[simp] theorem setDma_slots (s : State) (ch : Channel) (k : DmaReg) (v : Word) : (s.setDma ch k v).slots = s.slots := rfl
@[simp] theorem setDma_video (s : State) (ch : Channel) (k : DmaReg) (v : Word) : (s.setDma ch k v).video = s.video := rfl
@[simp] theorem setDma_audio (s : State) (ch : Channel) (k : DmaReg) (v : Word) : (s.setDma ch k v).audio = s.audio := rfl
@[simp] theorem setDma_fault (s : State) (ch : Channel) (k : DmaReg) (v : Word) : (s.setDma ch k v).fault = s.fault := rfl
@[simp] theorem setDma_log (s : State) (ch : Channel) (k : DmaReg) (v : Word) : (s.setDma ch k v).log = s.log := rfl
@[simp] theorem setDma_entryPc (s : State) (ch : Channel) (k : DmaReg) (v : Word) : (s.setDma ch k v).entryPc = s.entryPc := rfl
@[simp] theorem setDma_readData (s : State) (ch : Channel) (k : DmaReg) (v : Word) : (s.setDma ch k v).readData = s.readData := rfl
@[simp] theorem setDma_input (s : State) (ch : Channel) (k : DmaReg) (v : Word) : (s.setDma ch k v).input = s.input := rfl

@[simp] theorem clearDma_cfg (s : State) (ch : Channel) : (s.clearDma ch).cfg = s.cfg := rfl
@[simp] theorem clearDma_banksw (s : State) (ch : Channel) : (s.clearDma ch).banksw = s.banksw := rfl
@[simp] theorem clearDma_cs (s : State) (ch : Channel) : (s.clearDma ch).cs = s.cs := rfl
@[simp] theorem clearDma_nandCmd (s : State) (ch : Channel) : (s.clearDma ch).nandCmd = s.nandCmd := rfl
@[simp] theorem clearDma_nandAddrLo (s : State) (ch : Channel) : (s.clearDma ch).nandAddrLo = s.nandAddrLo := rfl
@[simp] theorem clearDma_nandAddrHi (s : State) (ch : Channel) : (s.clearDma ch).nandAddrHi = s.nandAddrHi := rfl
@[simp] theorem clearDma_nandPos (s : State) (ch : Channel) : (s.clearDma ch).nandPos = s.nandPos := rfl
@[simp] theorem clearDma_dma (s : State) (ch : Channel) : (s.clearDma ch).dma = s.dma.clear ch := rfl
@[simp] theorem clearDma_dmaSrcType (s : State) (ch : Channel) : (s.clearDma ch).dmaSrcType = s.dmaSrcType := rfl
@[simp] theorem clearDma_phase (s : State) (ch : Channel) : (s.clearDma ch).phase = s.phase := rfl
@[simp] theorem clearDma_iram (s : State) (ch : Channel) : (s.clearDma ch).iram = s.iram := rfl
@[simp] theorem clearDma_irom (s : State) (ch : Channel) : (s.clearDma ch).irom = s.irom := rfl
@[simp] theorem clearDma_slots (s : State) (ch : Channel) : (s.clearDma ch).slots = s.slots := rfl
@[simp] theorem clearDma_video (s : State) (ch : Channel) : (s.clearDma ch).video = s.video := rfl
@[simp] theorem clearDma_audio (s : State) (ch : Channel) : (s.clearDma ch).audio = s.audio := rfl
@[simp] theorem clearDma_fault (s : State) (ch : Channel) : (s.clearDma ch).fault = s.fault := rfl
@[simp] theorem clearDma_log (s : State) (ch : Channel) : (s.clearDma ch).log = s.log := rfl
@[simp] theorem clearDma_entryPc (s : State) (ch : Channel) : (s.clearDma ch).entryPc = s.entryPc := rfl
@[simp] theorem clearDma_readData (s : State) (ch : Channel) : (s.clearDma ch).readData = s.readData := rfl
@[simp] theorem clearDma_input (s : State) (ch : Channel) : (s.clearDma ch).input = s.input := rfl

@[simp] theorem setDmaSrcType_cfg (s : State) (v : Word) : (s.setDmaSrcType v).cfg = s.cfg := rfl
@[simp] theorem setDmaSrcType_banksw (s : State) (v : Word) : (s.setDmaSrcType v).banksw = s.banksw := rfl
@[simp] theorem setDmaSrcType_cs (s : State) (v : Word) : (s.setDmaSrcType v).cs = s.cs := rfl
@[simp] theorem setDmaSrcType_nandCmd (s : State) (v : Word) : (s.setDmaSrcType v).nandCmd = s.nandCmd := rfl
@[simp] theorem setDmaSrcType_nandAddrLo (s : State) (v : Word) : (s.setDmaSrcType v).nandAddrLo = s.nandAddrLo := rfl
@[simp] theorem setDmaSrcType_nandAddrHi (s : State) (v : Word) : (s.setDmaSrcType v).nandAddrHi = s.nandAddrHi := rfl
@[simp] theorem setDmaSrcType_nandPos (s : State) (v : Word) : (s.setDmaSrcType v).nandPos = s.nandPos := rfl
@[simp] theorem setDmaSrcType_dma (s : State) (v : Word) : (s.setDmaSrcType v).dma = s.dma := rfl
@[simp] theorem setDmaSrcType_dmaSrcType (s : State) (v : Word) : (s.setDmaSrcType v).dmaSrcType = v := rfl
@[simp] theorem setDmaSrcType_phase (s : State) (v : Word) : (s.setDmaSrcType v).phase = s.phase := rfl
@[simp] theorem setDmaSrcType_iram (s : State) (v : Word) : (s.setDmaSrcType v).iram = s.iram := rfl
@[simp] theorem setDmaSrcType_irom (s : State) (v : Word) : (s.setDmaSrcType v).irom = s.irom := rfl
@[simp] theorem setDmaSrcType_slots (s : State) (v : Word) : (s.setDmaSrcType v).slots = s.slots := rfl
@[simp] theorem setDmaSrcType_video (s : State) (v : Word) : (s.setDmaSrcType v).video = s.video := rfl
@[simp] theorem setDmaSrcType_audio (s : State) (v : Word) : (s.setDmaSrcType v).audio = s.audio := rfl
@[simp] theorem setDmaSrcType_fault (s : State) (v : Word) : (s.setDmaSrcType v).fault = s.fault := rfl
@[simp] theorem setDmaSrcType_log (s : State) (v : Word) : (s.setDmaSrcType v).log = s.log := rfl
@[simp] theorem setDmaSrcType_entryPc (s : State) (v : Word) : (s.setDmaSrcType v).entryPc = s.entryPc := rfl
@[simp] theorem setDmaSrcType_readData (s : State) (v : Word) : (s.setDmaSrcType v).readData = s.readData := rfl
@[simp] theorem setDmaSrcType_input (s : State) (v : Word) : (s.setDmaSrcType v).input = s.input := rfl

@[simp] theorem setPhase_cfg (s : State) (p : DmaPhase) : (s.setPhase p).cfg = s.cfg := rfl
@[simp] theorem setPhase_banksw (s : State) (p : DmaPhase) : (s.setPhase p).banksw = s.banksw := rfl
@[simp] theorem setPhase_cs (s : State) (p : DmaPhase) : (s.setPhase p).cs = s.cs := rfl
@[simp] theorem setPhase_nandCmd (s : State) (p : DmaPhase) : (s.setPhase p).nandCmd = s.nandCmd := rfl
@[simp] theorem setPhase_nandAddrLo (s : State) (p : DmaPhase) : (s.setPhase p).nandAddrLo = s.nandAddrLo := rfl
@[simp] theorem setPhase_nandAddrHi (s : State) (p : DmaPhase) : (s.setPhase p).nandAddrHi = s.nandAddrHi := rfl
@[simp] theorem setPhase_nandPos (s : State) (p : DmaPhase) : (s.setPhase p).nandPos = s.nandPos := rfl
@[simp] theorem setPhase_dma (s : State) (p : DmaPhase) : (s.setPhase p).dma = s.dma := rfl
@[simp] theorem setPhase_dmaSrcType (s : State) (p : DmaPhase) : (s.setPhase p).dmaSrcType = s.dmaSrcType := rfl
@[simp] theorem setPhase_phase (s : State) (p : DmaPhase) : (s.setPhase p).phase = p := rfl
@[simp] theorem setPhase_iram (s : State) (p : DmaPhase) : (s.setPhase p).iram = s.iram := rfl
@[simp] theorem setPhase_irom (s : State) (p : DmaPhase) : (s.setPhase p).irom = s.irom := rfl
@[simp] theorem setPhase_slots (s : State) (p : DmaPhase) : (s.setPhase p).slots = s.slots := rfl
@[simp] theorem setPhase_video (s : State) (p : DmaPhase) : (s.setPhase p).video = s.video := rfl
@[simp] theorem setPhase_audio (s : State) (p : DmaPhase) : (s.setPhase p).audio = s.audio := rfl
@[simp] theorem setPhase_fault (s : State) (p : DmaPhase) : (s.setPhase p).fault = s.fault := rfl
@[simp] theorem setPhase_log (s : State) (p : DmaPhase) : (s.setPhase p).log = s.log := rfl
@[simp] theorem setPhase_entryPc (s : State) (p : DmaPhase) : (s.setPhase p).entryPc = s.entryPc := rfl
@[simp] theorem setPhase_readData (s : State) (p : DmaPhase) : (s.setPhase p).readData = s.readData := rfl
@[simp] theorem setPhase_input (s : State) (p : DmaPhase) : (s.setPhase p).input = s.input := rfl

@[simp] theorem setIram_cfg (s : State) (m : Memory) : (s.setIram m).cfg = s.cfg := rfl
@[simp] theorem setIram_banksw (s : State) (m : Memory) : (s.setIram m).banksw = s.banksw := rfl
@[simp] theorem setIram_cs (s : State) (m : Memory) : (s.setIram m).cs = s.cs := rfl
@[simp] theorem setIram_nandCmd (s : State) (m : Memory) : (s.setIram m).nandCmd = s.nandCmd := rfl
@[simp] theorem setIram_nandAddrLo (s : State) (m : Memory) : (s.setIram m).nandAddrLo = s.nandAddrLo := rfl
@[simp] theorem setIram_nandAddrHi (s : State) (m : Memory) : (s.setIram m).nandAddrHi = s.nandAddrHi := rfl
@[simp] theorem setIram_nandPos (s : State) (m : Memory) : (s.setIram m).nandPos = s.nandPos := rfl
@[simp] theorem setIram_dma (s : State) (m : Memory) : (s.setIram m).dma = s.dma := rfl
@[simp] theorem setIram_dmaSrcType (s : State) (m : Memory) : (s.setIram m).dmaSrcType = s.dmaSrcType := rfl
@[simp] theorem setIram_phase (s : State) (m : Memory) : (s.setIram m).phase = s.phase := rfl
@[simp] theorem setIram_iram (s : State) (m : Memory) : (s.setIram m).iram = m := rfl
@[simp] theorem setIram_irom (s : State) (m : Memory) : (s.setIram m).irom = s.irom := rfl
@[simp] theorem setIram_slots (s : State) (m : Memory) : (s.setIram m).slots = s.slots := rfl
@[simp] theorem setIram_video (s : State) (m : Memory) : (s.setIram m).video = s.video := rfl
@[simp] theorem setIram_audio (s : State) (m : Memory) : (s.setIram m).audio = s.audio := rfl
@[simp] theorem setIram_fault (s : State) (m : Memory) : (s.setIram m).fault = s.fault := rfl
@[simp] theorem setIram_log (s : State) (m : Memory) : (s.setIram m).log = s.log := rfl
@[simp] theorem setIram_entryPc (s : State) (m : Memory) : (s.setIram m).entryPc = s.entryPc := rfl
@[simp] theorem setIram_readData (s : State) (m : Memory) : (s.setIram m).readData = s.readData := rfl
@[simp] theorem setIram_input (s : State) (m : Memory) : (s.setIram m).input = s.input := rfl

@[simp] theorem setIrom_cfg (s : State) (m : Memory) : (s.setIrom m).cfg = s.cfg := rfl
@[simp] theorem setIrom_banksw (s : State) (m : Memory) : (s.setIrom m).banksw = s.banksw := rfl
@[simp] theorem setIrom_cs (s : State) (m : Memory) : (s.setIrom m).cs = s.cs := rfl
@[simp] theorem setIrom_nandCmd (s : State) (m : Memory) : (s.setIrom m).nandCmd = s.nandCmd := rfl
@[simp] theorem setIrom_nandAddrLo (s : State) (m : Memory) : (s.setIrom m).nandAddrLo = s.nandAddrLo := rfl
@[simp] theorem setIrom_nandAddrHi (s : State) (m : Memory) : (s.setIrom m).nandAddrHi = s.nandAddrHi := rfl
@[simp] theorem setIrom_nandPos (s : State) (m : Memory) : (s.setIrom m).nandPos = s.nandPos := rfl
@[simp] theorem setIrom_dma (s : State) (m : Memory) : (s.setIrom m).dma = s.dma := rfl
@[simp] theorem setIrom_dmaSrcType (s : State) (m : Memory) : (s.setIrom m).dmaSrcType = s.dmaSrcType := rfl
@[simp] theorem setIrom_phase (s : State) (m : Memory) : (s.setIrom m).phase = s.phase := rfl
@[simp] theorem setIrom_iram (s : State) (m : Memory) : (s.setIrom m).iram = s.iram := rfl
@[simp] theorem setIrom_irom (s : State) (m : Memory) : (s.setIrom m).irom = m := rfl
@[simp] theorem setIrom_slots (s : State) (m : Memory) : (s.setIrom m).slots = s.slots := rfl
@[simp] theorem setIrom_video (s : State) (m : Memory) : (s.setIrom m).video = s.video := rfl
@[simp] theorem setIrom_audio (s : State) (m : Memory) : (s.setIrom m).audio = s.audio := rfl
@[simp] theorem setIrom_fault (s : State) (m : Memory) : (s.setIrom m).fault = s.fault := rfl
@[simp] theorem setIrom_log (s : State) (m : Memory) : (s.setIrom m).log = s.log := rfl
@[simp] theorem setIrom_entryPc (s : State) (m : Memory) : (s.setIrom m).entryPc = s.entryPc := rfl
@[simp] theorem setIrom_readData (s : State) (m : Memory) : (s.setIrom m).readData = s.readData := rfl
@[simp] theorem setIrom_input (s : State) (m : Memory) : (s.setIrom m).input = s.input := rfl

@[simp] theorem setSlot_cfg (s : State) (i : CsIndex) (x : Slot) : (s.setSlot i x).cfg = s.cfg := rfl
@[simp] theorem setSlot_banksw (s : State) (i : CsIndex) (x : Slot) : (s.setSlot i x).banksw = s.banksw := rfl
@[simp] theorem setSlot_cs (s : State) (i : CsIndex) (x : Slot) : (s.setSlot i x).cs = s.cs := rfl
@[simp] theorem setSlot_nandCmd (s : State) (i : CsIndex) (x : Slot) : (s.setSlot i x).nandCmd = s.nandCmd := rfl
@[simp] theorem setSlot_nandAddrLo (s : State) (i : CsIndex) (x : Slot) : (s.setSlot i x).nandAddrLo = s.nandAddrLo := rfl
@[simp] theorem setSlot_nandAddrHi (s : State) (i : CsIndex) (x : Slot) : (s.setSlot i x).nandAddrHi = s.nandAddrHi := rfl
@[simp] theorem setSlot_nandPos (s : State) (i : CsIndex) (x : Slot) : (s.setSlot i x).nandPos = s.nandPos := rfl
@[simp] theorem setSlot_dma (s : State) (i : CsIndex) (x : Slot) : (s.setSlot i x).dma = s.dma := rfl
@[simp] theorem setSlot_dmaSrcType (s : State) (i : CsIndex) (x : Slot) : (s.setSlot i x).dmaSrcType = s.dmaSrcType := rfl
@[simp] theorem setSlot_phase (s : State) (i : CsIndex) (x : Slot) : (s.setSlot i x).phase = s.phase := rfl
@[simp] theorem setSlot_iram (s : State) (i : CsIndex) (x : Slot) : (s.setSlot i x).iram = s.iram := rfl
@[simp] theorem setSlot_irom (s : State) (i : CsIndex) (x : Slot) : (s.setSlot i x).irom = s.irom := rfl
@[simp] theorem setSlot_slots (s : State) (i : CsIndex) (x : Slot) : (s.setSlot i x).slots = s.slots.set i x := rfl
@[simp] theorem setSlot_video (s : State) (i : CsIndex) (x : Slot) : (s.setSlot i x).video = s.video := rfl
@[simp] theorem setSlot_audio (s : State) (i : CsIndex) (x : Slot) : (s.setSlot i x).audio = s.audio := rfl
@[simp] theorem setSlot_fault (s : State) (i : CsIndex) (x : Slot) : (s.setSlot i x).fault = s.fault := rfl
@[simp] theorem setSlot_log (s : State) (i : CsIndex) (x : Slot) : (s.setSlot i x).log = s.log := rfl
@[simp] theorem setSlot_entryPc (s : State) (i : CsIndex) (x : Slot) : (s.setSlot i x).entryPc = s.entryPc := rfl
@[simp] theorem setSlot_readData (s : State) (i : CsIndex) (x : Slot) : (s.setSlot i x).readData = s.readData := rfl
@[simp] theorem setSlot_input (s : State) (i : CsIndex) (x : Slot) : (s.setSlot i x).input = s.input := rfl

@[simp] theorem setVideo_cfg (s : State) (h : List PortAccess) : (s.setVideo h).cfg = s.cfg := rfl
@[simp] theorem setVideo_banksw (s : State) (h : List PortAccess) : (s.setVideo h).banksw = s.banksw := rfl
@[simp] theorem setVideo_cs (s : State) (h : List PortAccess) : (s.setVideo h).cs = s.cs := rfl
@[simp] theorem setVideo_nandCmd (s : State) (h : List PortAccess) : (s.setVideo h).nandCmd = s.nandCmd := rfl
@[simp] theorem setVideo_nandAddrLo (s : State) (h : List PortAccess) : (s.setVideo h).nandAddrLo = s.nandAddrLo := rfl
@[simp] theorem setVideo_nandAddrHi (s : State) (h : List PortAccess) : (s.setVideo h).nandAddrHi = s.nandAddrHi := rfl
@[simp] theorem setVideo_nandPos (s : State) (h : List PortAccess) : (s.setVideo h).nandPos = s.nandPos := rfl
@[simp] theorem setVideo_dma (s : State) (h : List PortAccess) : (s.setVideo h).dma = s.dma := rfl
@[simp] theorem setVideo_dmaSrcType (s : State) (h : List PortAccess) : (s.setVideo h).dmaSrcType = s.dmaSrcType := rfl
@[simp] theorem setVideo_phase (s : State) (h : List PortAccess) : (s.setVideo h).phase = s.phase := rfl
@[simp] theorem setVideo_iram (s : State) (h : List PortAccess) : (s.setVideo h).iram = s.iram := rfl
@[simp] theorem setVideo_irom (s : State) (h : List PortAccess) : (s.setVideo h).irom = s.irom := rfl
@[simp] theorem setVideo_slots (s : State) (h : List PortAccess) : (s.setVideo h).slots = s.slots := rfl
@[simp] theorem setVideo_video (s : State) (h : List PortAccess) : (s.setVideo h).video = h := rfl
@[simp] theorem setVideo_audio (s : State) (h : List PortAccess) : (s.setVideo h).audio = s.audio := rfl
@[simp] theorem setVideo_fault (s : State) (h : List PortAccess) : (s.setVideo h).fault = s.fault := rfl
@[simp] theorem setVideo_log (s : State) (h : List PortAccess) : (s.setVideo h).log = s.log := rfl
@[simp] theorem setVideo_entryPc (s : State) (h : List PortAccess) : (s.setVideo h).entryPc = s.entryPc := rfl
@[simp] theorem setVideo_readData (s : State) (h : List PortAccess) : (s.setVideo h).readData = s.readData := rfl
@[simp] theorem setVideo_input (s : State) (h : List PortAccess) : (s.setVideo h).input = s.input := rfl

@[simp] theorem setAudio_cfg (s : State) (h : List PortAccess) : (s.setAudio h).cfg = s.cfg := rfl
@[simp] theorem setAudio_banksw (s : State) (h : List PortAccess) : (s.setAudio h).banksw = s.banksw := rfl
@[simp] theorem setAudio_cs (s : State) (h : List PortAccess) : (s.setAudio h).cs = s.cs := rfl
@[simp] theorem setAudio_nandCmd (s : State) (h : List PortAccess) : (s.setAudio h).nandCmd = s.nandCmd := rfl
@[simp] theorem setAudio_nandAddrLo (s : State) (h : List PortAccess) : (s.setAudio h).nandAddrLo = s.nandAddrLo := rfl
@[simp] theorem setAudio_nandAddrHi (s : State) (h : List PortAccess) : (s.setAudio h).nandAddrHi = s.nandAddrHi := rfl
@[simp] theorem setAudio_nandPos (s : State) (h : List PortAccess) : (s.setAudio h).nandPos = s.nandPos := rfl
@[simp] theorem setAudio_dma (s : State) (h : List PortAccess) : (s.setAudio h).dma = s.dma := rfl
@[simp] theorem setAudio_dmaSrcType (s : State) (h : List PortAccess) : (s.setAudio h).dmaSrcType = s.dmaSrcType := rfl
@[simp] theorem setAudio_phase (s : State) (h : List PortAccess) : (s.setAudio h).phase = s.phase := rfl
@[simp] theorem setAudio_iram (s : State) (h : List PortAccess) : (s.setAudio h).iram = s.iram := rfl
@[simp] theorem setAudio_irom (s : State) (h : List PortAccess) : (s.setAudio h).irom = s.irom := rfl
@[simp] theorem setAudio_slots (s : State) (h : List PortAccess) : (s.setAudio h).slots = s.slots := rfl
@[simp] theorem setAudio_video (s : State) (h : List PortAccess) : (s.setAudio h).video = s.video := rfl
@[simp] theorem setAudio_audio (s : State) (h : List PortAccess) : (s.setAudio h).audio = h := rfl
@[simp] theorem setAudio_fault (s : State) (h : List PortAccess) : (s.setAudio h).fault = s.fault := rfl
@[simp] theorem setAudio_log (s : State) (h : List PortAccess) : (s.setAudio h).log = s.log := rfl
@[simp] theorem setAudio_entryPc (s : State) (h : List PortAccess) : (s.setAudio h).entryPc = s.entryPc := rfl
@[simp] theorem setAudio_readData (s : State) (h : List PortAccess) : (s.setAudio h).readData = s.readData := rfl
@[simp] theorem setAudio_input (s : State) (h : List PortAccess) : (s.setAudio h).input = s.input := rfl

@[simp] theorem setFault_cfg (s : State) (r : Fault) : (s.setFault r).cfg = s.cfg := rfl
@[simp] theorem setFault_banksw (s : State) (r : Fault) : (s.setFault r).banksw = s.banksw := rfl
@[simp] theorem setFault_cs (s : State) (r : Fault) : (s.setFault r).cs = s.cs := rfl
@[simp] theorem setFault_nandCmd (s : State) (r : Fault) : (s.setFault r).nandCmd = s.nandCmd := rfl
@[simp] theorem setFault_nandAddrLo (s : State) (r : Fault) : (s.setFault r).nandAddrLo = s.nandAddrLo := rfl
@[simp] theorem setFault_nandAddrHi (s : State) (r : Fault) : (s.setFault r).nandAddrHi = s.nandAddrHi := rfl
@[simp] theorem setFault_nandPos (s : State) (r : Fault) : (s.setFault r).nandPos = s.nandPos := rfl
@[simp] theorem setFault_dma (s : State) (r : Fault) : (s.setFault r).dma = s.dma := rfl
@[simp] theorem setFault_dmaSrcType (s : State) (r : Fault) : (s.setFault r).dmaSrcType = s.dmaSrcType := rfl
@[simp] theorem setFault_phase (s : State) (r : Fault) : (s.setFault r).phase = s.phase := rfl
@[simp] theorem setFault_iram (s : State) (r : Fault) : (s.setFault r).iram = s.iram := rfl
@[simp] theorem setFault_irom (s : State) (r : Fault) : (s.setFault r).irom = s.irom := rfl
@[simp] theorem setFault_slots (s : State) (r : Fault) : (s.setFault r).slots = s.slots := rfl
@[simp] theorem setFault_video (s : State) (r : Fault) : (s.setFault r).video = s.video := rfl
@[simp] theorem setFault_audio (s : State) (r : Fault) : (s.setFault r).audio = s.audio := rfl
@[simp] theorem setFault_fault (s : State) (r : Fault) : (s.setFault r).fault = some r := rfl
@[simp] theorem setFault_log (s : State) (r : Fault) : (s.setFault r).log = s.log := rfl
@[simp] theorem setFault_entryPc (s : State) (r : Fault) : (s.setFault r).entryPc = s.entryPc := rfl
@[simp] theorem setFault_readData (s : State) (r : Fault) : (s.setFault r).readData = s.readData := rfl
@[simp] theorem setFault_input (s : State) (r : Fault) : (s.setFault r).input = s.input := rfl

@[simp] theorem addLog_cfg (s : State) (e : Event) : (s.addLog e).cfg = s.cfg := rfl
@[simp] theorem addLog_banksw (s : State) (e : Event) : (s.addLog e).banksw = s.banksw := rfl
@[simp] theorem addLog_cs (s : State) (e : Event) : (s.addLog e).cs = s.cs := rfl
@[simp] theorem addLog_nandCmd (s : State) (e : Event) : (s.addLog e).nandCmd = s.nandCmd := rfl
@[simp] theorem addLog_nandAddrLo (s : State) (e : Event) : (s.addLog e).nandAddrLo = s.nandAddrLo := rfl
@[simp] theorem addLog_nandAddrHi (s : State) (e : Event) : (s.addLog e).nandAddrHi = s.nandAddrHi := rfl
@[simp] theorem addLog_nandPos (s : State) (e : Event) : (s.addLog e).nandPos = s.nandPos := rfl
@[simp] theorem addLog_dma (s : State) (e : Event) : (s.addLog e).dma = s.dma := rfl
@[simp] theorem addLog_dmaSrcType (s : State) (e : Event) : (s.addLog e).dmaSrcType = s.dmaSrcType := rfl
@[simp] theorem addLog_phase (s : State) (e : Event) : (s.addLog e).phase = s.phase := rfl
@[simp] theorem addLog_iram (s : State) (e : Event) : (s.addLog e).iram = s.iram := rfl
@[simp] theorem addLog_irom (s : State) (e : Event) : (s.addLog e).irom = s.irom := rfl
@[simp] theorem addLog_slots (s : State) (e : Event) : (s.addLog e).slots = s.slots := rfl
@[simp] theorem addLog_video (s : State) (e : Event) : (s.addLog e).video = s.video := rfl
@[simp] theorem addLog_audio (s : State) (e : Event) : (s.addLog e).audio = s.audio := rfl
@[simp] theorem addLog_fault (s : State) (e : Event) : (s.addLog e).fault = s.fault := rfl
@[simp] theorem addLog_log (s : State) (e : Event) : (s.addLog e).log = s.log ++ [e] := rfl
@[simp] theorem addLog_entryPc (s : State) (e : Event) : (s.addLog e).entryPc = s.entryPc := rfl
@[simp] theorem addLog_readData (s : State) (e : Event) : (s.addLog e).readData = s.readData := rfl
@[simp] theorem addLog_input (s : State) (e : Event) : (s.addLog e).input = s.input := rfl

@[simp] theorem setEntryPc_cfg (s : State) (v : Word) : (s.setEntryPc v).cfg = s.cfg := rfl
@[simp] theorem setEntryPc_banksw (s : State) (v : Word) : (s.setEntryPc v).banksw = s.banksw := rfl
@[simp] theorem setEntryPc_cs (s : State) (v : Word) : (s.setEntryPc v).cs = s.cs := rfl
@[simp] theorem setEntryPc_nandCmd (s : State) (v : Word) : (s.setEntryPc v).nandCmd = s.nandCmd := rfl
@[simp] theorem setEntryPc_nandAddrLo (s : State) (v : Word) : (s.setEntryPc v).nandAddrLo = s.nandAddrLo := rfl
@[simp] theorem setEntryPc_nandAddrHi (s : State) (v : Word) : (s.setEntryPc v).nandAddrHi = s.nandAddrHi := rfl
@[simp] theorem setEntryPc_nandPos (s : State) (v : Word) : (s.setEntryPc v).nandPos = s.nandPos := rfl
@[simp] theorem setEntryPc_dma (s : State) (v : Word) : (s.setEntryPc v).dma = s.dma := rfl
@[simp] theorem setEntryPc_dmaSrcType (s : State) (v : Word) : (s.setEntryPc v).dmaSrcType = s.dmaSrcType := rfl
@[simp] theorem setEntryPc_phase (s : State) (v : Word) : (s.setEntryPc v).phase = s.phase := rfl
@[simp] theorem setEntryPc_iram (s : State) (v : Word) : (s.setEntryPc v).iram = s.iram := rfl
@[simp] theorem setEntryPc_irom (s : State) (v : Word) : (s.setEntryPc v).irom = s.irom := rfl
@[simp] theorem setEntryPc_slots (s : State) (v : Word) : (s.setEntryPc v).slots = s.slots := rfl
@[simp] theorem setEntryPc_video (s : State) (v : Word) : (s.setEntryPc v).video = s.video := rfl
@[simp] theorem setEntryPc_audio (s : State) (v : Word) : (s.setEntryPc v).audio = s.audio := rfl
@[simp] theorem setEntryPc_fault (s : State) (v : Word) : (s.setEntryPc v).fault = s.fault := rfl
@[simp] theorem setEntryPc_log (s : State) (v : Word) : (s.setEntryPc v).log = s.log := rfl
@[simp] theorem setEntryPc_entryPc (s : State) (v : Word) : (s.setEntryPc v).entryPc = v := rfl
@[simp] theorem setEntryPc_readData (s : State) (v : Word) : (s.setEntryPc v).readData = s.readData := rfl
@[simp] theorem setEntryPc_input (s : State) (v : Word) : (s.setEntryPc v).input = s.input := rfl

@[simp] theorem setReadData_cfg (s : State) (v : Word) : (s.setReadData v).cfg = s.cfg := rfl
@[simp] theorem setReadData_banksw (s : State) (v : Word) : (s.setReadData v).banksw = s.banksw := rfl
@[simp] theorem setReadData_cs (s : State) (v : Word) : (s.setReadData v).cs = s.cs := rfl
@[simp] theorem setReadData_nandCmd (s : State) (v : Word) : (s.setReadData v).nandCmd = s.nandCmd := rfl
@[simp] theorem setReadData_nandAddrLo (s : State) (v : Word) : (s.setReadData v).nandAddrLo = s.nandAddrLo := rfl
@[simp] theorem setReadData_nandAddrHi (s : State) (v : Word) : (s.setReadData v).nandAddrHi = s.nandAddrHi := rfl
@[simp] theorem setReadData_nandPos (s : State) (v : Word) : (s.setReadData v).nandPos = s.nandPos := rfl
@[simp] theorem setReadData_dma (s : State) (v : Word) : (s.setReadData v).dma = s.dma := rfl
@[simp] theorem setReadData_dmaSrcType (s : State) (v : Word) : (s.setReadData v).dmaSrcType = s.dmaSrcType := rfl
@[simp] theorem setReadData_phase (s : State) (v : Word) : (s.setReadData v).phase = s.phase := rfl
@[simp] theorem setReadData_iram (s : State) (v : Word) : (s.setReadData v).iram = s.iram := rfl
@[simp] theorem setReadData_irom (s : State) (v : Word) : (s.setReadData v).irom = s.irom := rfl
@[simp] theorem setReadData_slots (s : State) (v : Word) : (s.setReadData v).slots = s.slots := rfl
@[simp] theorem setReadData_video (s : State) (v : Word) : (s.setReadData v).video = s.video := rfl
@[simp] theorem setReadData_audio (s : State) (v : Word) : (s.setReadData v).audio = s.audio := rfl
@[simp] theorem setReadData_fault (s : State) (v : Word) : (s.setReadData v).fault = s.fault := rfl
@[simp] theorem setReadData_log (s : State) (v : Word) : (s.setReadData v).log = s.log := rfl
@[simp] theorem setReadData_entryPc (s : State) (v : Word) : (s.setReadData v).entryPc = s.entryPc := rfl
@[simp] theorem setReadData_readData (s : State) (v : Word) : (s.setReadData v).readData = v := rfl
@[simp] theorem setReadData_input (s : State) (v : Word) : (s.setReadData v).input = s.input := rfl

@[simp] theorem setInput_cfg (s : State) (l : List Stimulus) : (s.setInput l).cfg = s.cfg := rfl
@[simp] theorem setInput_banksw (s : State) (l : List Stimulus) : (s.setInput l).banksw = s.banksw := rfl
@[simp] theorem setInput_cs (s : State) (l : List Stimulus) : (s.setInput l).cs = s.cs := rfl
@[simp] theorem setInput_nandCmd (s : State) (l : List Stimulus) : (s.setInput l).nandCmd = s.nandCmd := rfl
@[simp] theorem setInput_nandAddrLo (s : State) (l : List Stimulus) : (s.setInput l).nandAddrLo = s.nandAddrLo := rfl
@[simp] theorem setInput_nandAddrHi (s : State) (l : List Stimulus) : (s.setInput l).nandAddrHi = s.nandAddrHi := rfl
@[simp] theorem setInput_nandPos (s : State) (l : List Stimulus) : (s.setInput l).nandPos = s.nandPos := rfl
@[simp] theorem setInput_dma (s : State) (l : List Stimulus) : (s.setInput l).dma = s.dma := rfl
@[simp] theorem setInput_dmaSrcType (s : State) (l : List Stimulus) : (s.setInput l).dmaSrcType = s.dmaSrcType := rfl
@[simp] theorem setInput_phase (s : State) (l : List Stimulus) : (s.setInput l).phase = s.phase := rfl
@[simp] theorem setInput_iram (s : State) (l : List Stimulus) : (s.setInput l).iram = s.iram := rfl
@[simp] theorem setInput_irom (s : State) (l : List Stimulus) : (s.setInput l).irom = s.irom := rfl
@[simp] theorem setInput_slots (s : State) (l : List Stimulus) : (s.setInput l).slots = s.slots := rfl
@[simp] theorem setInput_video (s : State) (l : List Stimulus) : (s.setInput l).video = s.video := rfl
@[simp] theorem setInput_audio (s : State) (l : List Stimulus) : (s.setInput l).audio = s.audio := rfl
@[simp] theorem setInput_fault (s : State) (l : List Stimulus) : (s.setInput l).fault = s.fault := rfl
@[simp] theorem setInput_log (s : State) (l : List Stimulus) : (s.setInput l).log = s.log := rfl
@[simp] theorem setInput_entryPc (s : State) (l : List Stimulus) : (s.setInput l).entryPc = s.entryPc := rfl
@[simp] theorem setInput_readData (s : State) (l : List Stimulus) : (s.setInput l).readData = s.readData := rfl
@[simp] theorem setInput_input (s : State) (l : List Stimulus) : (s.setInput l).input = l := rfl

end Sys2Proof.Machine.State

namespace Sys2Proof.Machine

@[simp] theorem PerRegion.get_set_same {α : Type} (p : PerRegion α) (i : CsIndex) (x : α) :
    (p.set i x).get i = x := by
  cases i <;> rfl

theorem PerRegion.get_set_other {α : Type} (p : PerRegion α) (i j : CsIndex) (x : α) (h : j ≠ i) :
    (p.set i x).get j = p.get j := by
  cases i <;> cases j <;> first | rfl | exact absurd rfl h

@[simp] theorem DmaRegs.get_set_same (d : DmaRegs) (ch : Channel) (k : DmaReg) (v : Word) :
    (d.set ch k v).get ch k = v := by
  cases ch <;> cases k <;> rfl

theorem DmaRegs.get_set_other (d : DmaRegs) (ch ch' : Channel) (k k' : DmaReg) (v : Word)
    (h : ¬(ch' = ch ∧ k' = k)) : (d.set ch k v).get ch' k' = d.get ch' k' := by
  cases ch <;> cases ch' <;> cases k <;> cases k' <;> first | rfl | exact absurd ⟨rfl, rfl⟩ h

@[simp] theorem DmaRegs.get_clear_same (d : DmaRegs) (ch : Channel) (k : DmaReg) :
    (d.clear ch).get ch k = 0 := by
  cases ch <;> cases k <;> rfl

theorem DmaRegs.get_clear_other (d : DmaRegs) (ch ch' : Channel) (k : DmaReg) (h : ch' ≠ ch) :
    (d.clear ch).get ch' k = d.get ch' k := by
  cases ch <;> cases ch' <;> first | rfl | exact absurd rfl h

end Sys2Proof.Machine
end

