-- ==== Sys2Proof/Laws/Bootstrap.lean ====
section
/-! SUPPORT. What the bootstrap copy and the vector patch leave in memory, and which fields the bootstrap
touches. -/

namespace Sys2Proof.Machine

theorem bootDestOf_toNat (c : Config) : (bootDestOf c).toNat = (imageByte c 0x15).toNat * 256 :=
  bootDest_toNat _

theorem bootFits_iff (c : Config) :
    bootFits c = true ↔
      c.iramBase.toNat ≤ (imageByte c 0x15).toNat * 256 ∧
        (imageByte c 0x15).toNat * 256 + c.initialCopyWords ≤ c.iramBase.toNat + c.iramSize := by
  unfold bootFits
  rw [bootDestOf_toNat, decide_eq_true_iff]

/-! ## The copy -/

theorem copyBoot_wf {c : Config} {base n : Nat} {m : Memory} (h : m.wf) : (copyBoot c base n m).wf := by
  induction n with
  | zero => exact h
  | succ n ih => exact Memory.writeWord_wf ih _ _

theorem copyBoot_within {c : Config} {base n size : Nat} {m : Memory} (h : m.within size)
    (hn : base + n ≤ size) : (copyBoot c base n m).within size := by
  induction n with
  | zero => exact h
  | succ n ih => exact Memory.writeWord_within (ih (by omega)) (by omega) _

theorem copyBoot_byte_other {c : Config} {base n k : Nat} {m : Memory}
    (h : ¬(base ≤ k / 2 ∧ k / 2 < base + n)) : (copyBoot c base n m).readByte k = m.readByte k := by
  induction n with
  | zero => rfl
  | succ n ih =>
    simp only [copyBoot]
    rw [Memory.readByte_writeWord_other _ _ (by omega), ih (by omega)]

theorem copyBoot_word {c : Config} {base n i : Nat} {m : Memory} (hw : m.wf) (h : i < n) :
    (copyBoot c base n m).readWord (base + i) = bootWord c i := by
  induction n with
  | zero => omega
  | succ n ih =>
    simp only [copyBoot]
    by_cases hi : i = n
    · subst hi
      exact Memory.readWord_writeWord_same (copyBoot_wf hw) _ _
    · rw [Memory.readWord_writeWord_other _ _ (by omega)]
      exact ih (by omega)

/-! ## The vectors -/

theorem patchVectors_wf {c : Config} {n : Nat} {m : Memory} (h : m.wf) : (patchVectors c n m).wf := by
  induction n with
  | zero => exact h
  | succ n ih => exact Memory.writeWord_wf ih _ _

theorem patchVectors_within {c : Config} {n : Nat} {m : Memory} (h : m.within Config.iromSize)
    (hn : n ≤ 11) : (patchVectors c n m).within Config.iromSize := by
  induction n with
  | zero => exact h
  | succ n ih =>
    exact Memory.writeWord_within (ih (by omega)) (by unfold vectorSlot0 Config.iromSize; omega) _

theorem patchVectors_byte_other {c : Config} {n k : Nat} {m : Memory}
    (h : ¬(vectorSlot0 ≤ k / 2 ∧ k / 2 < vectorSlot0 + n)) :
    (patchVectors c n m).readByte k = m.readByte k := by
  induction n with
  | zero => rfl
  | succ n ih =>
    simp only [patchVectors]
    rw [Memory.readByte_writeWord_other _ _ (by omega), ih (by omega)]

theorem patchVectors_word {c : Config} {n k : Nat} {m : Memory} (hw : m.wf) (h : k < n) :
    (patchVectors c n m).readWord (vectorSlot0 + k) = vectorWord c k := by
  induction n with
  | zero => omega
  | succ n ih =>
    simp only [patchVectors]
    by_cases hk : k = n
    · subst hk
      exact Memory.readWord_writeWord_same (patchVectors_wf hw) _ _
    · rw [Memory.readWord_writeWord_other _ _ (by omega)]
      exact ih (by omega)

/-! ## The bootstrap, field by field -/

/-- The two memories it writes; every other field stays (44_bootstrap R218). -/
theorem bootstrap_eq (s : State) :
    bootstrap s =
      { s with
        iram := copyBoot s.cfg ((bootDestOf s.cfg).toNat - s.cfg.iramBase.toNat)
          s.cfg.initialCopyWords s.iram
        irom := patchVectors s.cfg 11 s.irom } := by
  simp only [bootstrap, State.setIram, State.setIrom]

@[simp] theorem bootstrap_irom (s : State) : (bootstrap s).irom = patchVectors s.cfg 11 s.irom := by
  rw [bootstrap_eq]

@[simp] theorem bootstrap_iram (s : State) :
    (bootstrap s).iram = copyBoot s.cfg ((bootDestOf s.cfg).toNat - s.cfg.iramBase.toNat)
      s.cfg.initialCopyWords s.iram := by
  rw [bootstrap_eq]

@[simp] theorem bootstrap_cfg (s : State) : (bootstrap s).cfg = s.cfg := rfl

@[simp] theorem resetRegisters_irom (s : State) : (resetRegisters s).irom = s.cfg.iromImage := rfl

@[simp] theorem resetRegisters_iram (s : State) : (resetRegisters s).iram = s.iram := rfl

@[simp] theorem resetRegisters_cfg (s : State) : (resetRegisters s).cfg = s.cfg := rfl

end Sys2Proof.Machine
end

