-- ==== Sys2Proof/Laws/Decode.lean ====
section
/-! SUPPORT. The small lemmas of the selector, its bytes and the address decoder. -/

namespace Sys2Proof

@[simp] theorem selWrites_busSel (w : Bool) (a : Addr) : selWrites (busSel w a) = w := by
  have h := BitVec.getLsbD_append (x := BitVec.ofBool w) (y := a) (i := 32)
  rw [if_neg (by omega)] at h
  refine (show _ = _ from h).trans ?_
  cases w <;> rfl

@[simp] theorem selAddr_busSel (w : Bool) (a : Addr) : selAddr (busSel w a) = a := by
  unfold selAddr
  ext i hi
  have h := BitVec.getLsbD_append (x := BitVec.ofBool w) (y := a) (i := i)
  rw [if_pos hi] at h
  rw [BitVec.getElem_extractLsb', Nat.zero_add]
  exact h.trans (BitVec.getLsbD_eq_getElem hi)

/-- A selector is its direction and its address. -/
theorem busSel_sel (sel : BitVec 33) : busSel (selWrites sel) (selAddr sel) = sel := by
  apply BitVec.eq_of_getLsbD_eq
  intro i hi
  have h := BitVec.getLsbD_append (x := BitVec.ofBool (selWrites sel)) (y := selAddr sel) (i := i)
  refine (show _ = _ from h).trans ?_
  split
  · simp only [selAddr, BitVec.getLsbD_extractLsb', Nat.zero_add]
    rw [decide_eq_true ‹_›, Bool.true_and]
  · have : i = 32 := by omega
    subst this
    cases h : selWrites sel <;> exact h.symm

/-! ## The address decoder, one lemma a range (20_memory R62) -/

theorem busTarget_sysreg {c : Config} {a : Addr} (h : Config.inSysreg a.toNat = true) :
    busTarget c a = sysregTarget a.toNat := by
  unfold busTarget
  rw [if_pos h]

/-- What each target says of the address, by the first match. -/
theorem busTarget_cases (c : Config) (a : Addr) :
    (Config.inSysreg a.toNat = true ∧ busTarget c a = sysregTarget a.toNat) ∨
    (busTarget c a = .iram ∧ c.inIram a.toNat = true) ∨
    (busTarget c a = .irom ∧ c.inIrom a.toNat = true) ∨
    (busTarget c a = .direct ∧ c.inDirect a.toNat = true) ∨
    (busTarget c a = .banked ∧ c.inBanked a.toNat = true) ∨
    (busTarget c a = .unmapped ∧ c.isUnmapped a.toNat = true) := by
  unfold busTarget
  split
  · exact .inl ⟨‹_›, rfl⟩
  · split
    · exact .inr (.inl ⟨rfl, ‹_›⟩)
    · split
      · exact .inr (.inr (.inl ⟨rfl, ‹_›⟩))
      · split
        · exact .inr (.inr (.inr (.inl ⟨rfl, ‹_›⟩)))
        · split
          · exact .inr (.inr (.inr (.inr (.inl ⟨rfl, ‹_›⟩))))
          · exact .inr (.inr (.inr (.inr (.inr ⟨rfl, by simp_all [Config.isUnmapped]⟩))))

/-- Disjoint ranges share no address. -/
theorem Config.disjoint.apart {r s : Nat × Nat} (h : Config.disjoint r s) {a : Nat}
    (hr : r.1 ≤ a ∧ a < r.2) : ¬(s.1 ≤ a ∧ a < s.2) := by
  simp only [Config.disjoint] at h
  omega

/-- Under a valid configuration no two ranges share an address. -/
theorem Config.Valid.apart {c : Config} (h : c.Valid) (a : Nat) :
    (c.inIram a = true → Config.inSysreg a = false) ∧
    (c.inIrom a = true → Config.inSysreg a = false ∧ c.inIram a = false) ∧
    (c.inDirect a = true → Config.inSysreg a = false ∧ c.inIram a = false ∧ c.inIrom a = false) ∧
    (c.inBanked a = true → Config.inSysreg a = false ∧ c.inIram a = false ∧ c.inIrom a = false ∧
      c.inDirect a = false) := by
  have h := h.1
  simp only [Config.ranges, List.pairwise_cons, List.mem_cons, List.not_mem_nil, or_false,
    forall_eq_or_imp, forall_eq] at h
  obtain ⟨⟨s1, s2, s3, s4⟩, ⟨i1, i2, i3⟩, ⟨o1, o2⟩, d1, -⟩ := h
  simp only [Config.inSysreg, Config.inIram, Config.inIrom, Config.inDirect, Config.inBanked,
    decide_eq_true_eq, decide_eq_false_iff_not]
  have up {l h : Nat} (m : l ≤ a ∧ a ≤ h) : l ≤ a ∧ a < h + 1 := ⟨m.1, Nat.lt_succ_of_le m.2⟩
  exact ⟨fun k m => s1.apart (up m) k,
    fun k => ⟨fun m => s2.apart (up m) k, fun m => i1.apart m k⟩,
    fun k => ⟨fun m => s3.apart (up m) (up k), fun m => i2.apart m (up k),
      fun m => o1.apart m (up k)⟩,
    fun k => ⟨fun m => s4.apart (up m) k, fun m => i3.apart m k, fun m => o2.apart m k,
      fun m => d1.apart (up m) k⟩⟩

end Sys2Proof
end

