-- ==== Sys2Proof/Laws/Frames.lean ====
section
/-! SUPPORT. Once for each shared operation: everything it can do to the state. A claim about runs cites these
and does not unfold the operation. -/

namespace Sys2Proof.Machine

/-- What no bus access and no transfer changes, and how the rest may grow: the configuration, the internal
ROM, the CPU's entry point and last word read, the pending stimuli and the phase stay; the log and the two
co-processor histories only grow; memories stay canonical and internal RAM in its range. -/
structure Keeps (s t : State) : Prop where
  cfg : t.cfg = s.cfg
  irom : t.irom = s.irom
  entryPc : t.entryPc = s.entryPc
  readData : t.readData = s.readData
  input : t.input = s.input
  phase : t.phase = s.phase
  log : s.log <+: t.log
  video : s.video <+: t.video
  audio : s.audio <+: t.audio
  iram_wf : s.iram.wf → t.iram.wf
  iram_within : s.iram.within s.cfg.iramSize → t.iram.within s.cfg.iramSize
  slots_wf : (∀ i, (s.slots.get i).wf) → ∀ i, (t.slots.get i).wf

theorem Keeps.refl (s : State) : Keeps s s :=
  ⟨rfl, rfl, rfl, rfl, rfl, rfl, List.prefix_rfl, List.prefix_rfl, List.prefix_rfl, id, id, id⟩

theorem Keeps.trans {s t u : State} (h : Keeps s t) (k : Keeps t u) : Keeps s u where
  cfg := k.cfg.trans h.cfg
  irom := k.irom.trans h.irom
  entryPc := k.entryPc.trans h.entryPc
  readData := k.readData.trans h.readData
  input := k.input.trans h.input
  phase := k.phase.trans h.phase
  log := h.log.trans k.log
  video := h.video.trans k.video
  audio := h.audio.trans k.audio
  iram_wf := k.iram_wf ∘ h.iram_wf
  iram_within := by have := k.iram_within; rw [h.cfg] at this; exact this ∘ h.iram_within
  slots_wf := k.slots_wf ∘ h.slots_wf

/-- An update of a field that `Keeps` says nothing about. -/
theorem Keeps.of_eq {s t : State} (cfg : t.cfg = s.cfg) (irom : t.irom = s.irom)
    (entryPc : t.entryPc = s.entryPc) (readData : t.readData = s.readData)
    (input : t.input = s.input) (phase : t.phase = s.phase) (log : t.log = s.log)
    (video : t.video = s.video) (audio : t.audio = s.audio) (iram : t.iram = s.iram)
    (slots : t.slots = s.slots) : Keeps s t :=
  ⟨cfg, irom, entryPc, readData, input, phase, log ▸ List.prefix_rfl, video ▸ List.prefix_rfl,
    audio ▸ List.prefix_rfl, by rw [iram]; exact id, by rw [iram]; exact id, by rw [slots]; exact id⟩

/-- What a read changes besides: nothing but the position, the stores' histories and the log. In particular
internal RAM, the registers and the fault marker stay. -/
structure ReadKeeps (s t : State) : Prop extends Keeps s t where
  banksw : t.banksw = s.banksw
  cs : t.cs = s.cs
  nandCmd : t.nandCmd = s.nandCmd
  nandAddrLo : t.nandAddrLo = s.nandAddrLo
  nandAddrHi : t.nandAddrHi = s.nandAddrHi
  dma : t.dma = s.dma
  dmaSrcType : t.dmaSrcType = s.dmaSrcType
  iram : t.iram = s.iram
  fault : t.fault = s.fault

theorem ReadKeeps.refl (s : State) : ReadKeeps s s :=
  ⟨Keeps.refl s, rfl, rfl, rfl, rfl, rfl, rfl, rfl, rfl, rfl⟩

theorem Keeps.addLog (s : State) (e : Event) : Keeps s (s.addLog e) :=
  { Keeps.refl s with log := List.prefix_append _ _ }

theorem ReadKeeps.addLog (s : State) (e : Event) : ReadKeeps s (s.addLog e) :=
  { ReadKeeps.refl s with toKeeps := Keeps.addLog s e }

theorem ReadKeeps.setNandPos (s : State) (p : BitVec 32) : ReadKeeps s (s.setNandPos p) :=
  { ReadKeeps.refl s with toKeeps := { Keeps.refl s with } }

theorem Keeps.setSlot (s : State) (i : CsIndex) (x : Slot) (h : (s.slots.get i).wf → x.wf) :
    Keeps s (s.setSlot i x) :=
  { Keeps.refl s with
    slots_wf := fun hs j => by
      by_cases hj : j = i
      · subst hj; simpa using h (hs _)
      · simpa [PerRegion.get_set_other _ _ _ _ hj] using hs j }

theorem slotRead_keeps (i : CsIndex) (r : Nat) (s : State) : ReadKeeps s (slotRead i r s).2 := by
  unfold slotRead
  split
  · exact ReadKeeps.refl s
  · exact ReadKeeps.refl s
  · exact { ReadKeeps.refl s with toKeeps := Keeps.setSlot s i _ fun _ => trivial }

theorem slotWrite_keeps (i : CsIndex) (r : Nat) (v : Word) (s : State) : Keeps s (slotWrite i r v s) := by
  unfold slotWrite
  split
  · rename_i m h
    refine Keeps.setSlot s i _ fun hw => ?_
    rw [h] at hw
    exact Memory.writeWord_wf (m := m) hw r v
  · exact Keeps.refl s
  · exact Keeps.setSlot s i _ fun _ => trivial

theorem csReadAt_keeps (o : Nat) (p : Option (CsIndex × Nat)) (s : State) :
    ReadKeeps s (csReadAt o p s).2 := by
  unfold csReadAt
  split
  · exact slotRead_keeps ..
  · exact ReadKeeps.addLog ..

theorem csWriteAt_keeps (o : Nat) (v : Word) (p : Option (CsIndex × Nat)) (s : State) :
    Keeps s (csWriteAt o v p s) := by
  unfold csWriteAt
  split
  · exact slotWrite_keeps ..
  · exact Keeps.addLog ..

theorem csSpaceRead_keeps (o : Nat) (s : State) : ReadKeeps s (csSpaceRead o s).2 := csReadAt_keeps ..

theorem csSpaceWrite_keeps (o : Nat) (v : Word) (s : State) : Keeps s (csSpaceWrite o v s) :=
  csWriteAt_keeps ..

/-- An access to CS space that the layout covers, and one that it does not. -/
theorem csSpaceRead_of_some {o r : Nat} {i : CsIndex} {s : State} (h : csLookup s.cs o = some (i, r)) :
    csSpaceRead o s = slotRead i r s := congrArg (fun p => csReadAt o p s) h

theorem csSpaceRead_of_none {o : Nat} {s : State} (h : csLookup s.cs o = none) :
    csSpaceRead o s = defaultRead (.csUnmapped o none) s := congrArg (fun p => csReadAt o p s) h

theorem csSpaceWrite_of_some {o r : Nat} {i : CsIndex} {v : Word} {s : State}
    (h : csLookup s.cs o = some (i, r)) : csSpaceWrite o v s = slotWrite i r v s :=
  congrArg (fun p => csWriteAt o v p s) h

theorem csSpaceWrite_of_none {o : Nat} {v : Word} {s : State} (h : csLookup s.cs o = none) :
    csSpaceWrite o v s = defaultWrite (.csUnmapped o (some v)) s :=
  congrArg (fun p => csWriteAt o v p s) h

theorem bankRead_keeps (o : Nat) (s : State) : ReadKeeps s (bankRead o s).2 := by
  unfold bankRead
  split
  · exact csSpaceRead_keeps ..
  · exact ReadKeeps.addLog ..

theorem bankWrite_keeps (o : Nat) (v : Word) (s : State) : Keeps s (bankWrite o v s) := by
  unfold bankWrite
  split
  · exact csSpaceWrite_keeps ..
  · exact Keeps.addLog ..

theorem directRead_keeps (a : Addr) (s : State) : ReadKeeps s (directRead a s).2 := csSpaceRead_keeps ..

theorem directWrite_keeps (a : Addr) (v : Word) (s : State) : Keeps s (directWrite a v s) :=
  csSpaceWrite_keeps ..

theorem bankedRead_keeps (a : Addr) (s : State) : ReadKeeps s (bankedRead a s).2 := bankRead_keeps ..

theorem bankedWrite_keeps (a : Addr) (v : Word) (s : State) : Keeps s (bankedWrite a v s) :=
  bankWrite_keeps ..

theorem nandDataRead_keeps (s : State) : ReadKeeps s (nandDataRead s).2 := by
  unfold nandDataRead
  split
  · exact ReadKeeps.setNandPos ..
  · exact ReadKeeps.setNandPos ..
  · exact ReadKeeps.setNandPos ..
  · exact { ReadKeeps.addLog s (.nandUnknownCommand s.nandCmd) with
      toKeeps := { Keeps.addLog s (.nandUnknownCommand s.nandCmd) with } }

theorem videoRead_keeps (a : Addr) (s : State) : ReadKeeps s (videoRead a s).2 :=
  { ReadKeeps.refl s with toKeeps := { Keeps.refl s with video := List.prefix_append _ _ } }

theorem audioRead_keeps (a : Addr) (s : State) : ReadKeeps s (audioRead a s).2 :=
  { ReadKeeps.refl s with toKeeps := { Keeps.refl s with audio := List.prefix_append _ _ } }

theorem regRead_keeps (r : Reg) (a : Addr) (s : State) : ReadKeeps s (regRead r a s).2 := by
  cases r with
  | nandData => exact nandDataRead_keeps s
  | nandCmd => exact ReadKeeps.addLog ..
  | nandAddrLo => exact ReadKeeps.addLog ..
  | nandAddrHi => exact ReadKeeps.addLog ..
  | banksw => exact ReadKeeps.refl s
  | cs i => exact ReadKeeps.refl s
  | dma ch k => exact ReadKeeps.refl s
  | dmaSrcType => exact ReadKeeps.refl s
  | dmaStatus => exact ReadKeeps.refl s

/-- Everything a bus read can do to the state. -/
theorem busRead_keeps (a : Addr) (s : State) : ReadKeeps s (busRead a s).2 := by
  unfold busRead
  split
  · exact videoRead_keeps a s
  · exact audioRead_keeps a s
  · exact regRead_keeps _ a s
  · exact ReadKeeps.addLog ..
  · exact ReadKeeps.refl s
  · exact ReadKeeps.refl s
  · exact csSpaceRead_keeps ..
  · exact bankRead_keeps ..
  · exact ReadKeeps.addLog ..

theorem Keeps.setIram (s : State) (o : Nat) (v : Word) (h : o < s.cfg.iramSize) :
    Keeps s (s.setIram (s.iram.writeWord o v)) :=
  { Keeps.refl s with
    iram_wf := fun hw => Memory.writeWord_wf hw o v
    iram_within := fun hw => Memory.writeWord_within hw h v }

theorem iramWrite_keeps (a : Addr) (v : Word) (s : State) (h : s.cfg.inIram a.toNat = true) :
    Keeps s (iramWrite a v s) := by
  have h' := of_decide_eq_true h
  exact Keeps.setIram s _ v (by omega)

/-- A target of internal RAM is an address of internal RAM. -/
theorem inIram_of_busTarget {c : Config} {a : Addr} (h : busTarget c a = .iram) :
    c.inIram a.toNat = true := by
  unfold busTarget sysregTarget at h
  split at h
  · split at h
    · cases h
    · split at h
      · cases h
      · split at h <;> cases h
  · split at h
    · assumption
    · split at h
      · cases h
      · split at h
        · cases h
        · split at h <;> cases h

theorem regWrite_keeps (trig : Word → State → State) (ht : ∀ d s, Keeps s (trig d s)) (r : Reg)
    (a : Addr) (v : Word) (s : State) : Keeps s (regWrite trig r a v s) := by
  cases r with
  | dmaStatus => exact ht v s
  | nandData => exact Keeps.addLog ..
  | banksw => exact { Keeps.refl s with }
  | cs i => exact { Keeps.refl s with }
  | nandCmd => exact { Keeps.refl s with }
  | nandAddrLo => exact { Keeps.refl s with }
  | nandAddrHi => exact { Keeps.refl s with }
  | dma ch k => exact { Keeps.refl s with }
  | dmaSrcType => exact { Keeps.refl s with }

/-- Everything a bus write can do to the state, given what its trigger can do. -/
theorem busWriteWith_keeps (trig : Word → State → State) (ht : ∀ d s, Keeps s (trig d s)) (a : Addr)
    (v : Word) (s : State) : Keeps s (busWriteWith trig a v s) := by
  unfold busWriteWith
  split
  · exact { Keeps.refl s with video := List.prefix_append _ _ }
  · exact { Keeps.refl s with audio := List.prefix_append _ _ }
  · exact regWrite_keeps trig ht _ a v s
  · exact Keeps.addLog ..
  · exact iramWrite_keeps a v s (inIram_of_busTarget ‹_›)
  · exact Keeps.addLog ..
  · exact csSpaceWrite_keeps ..
  · exact bankWrite_keeps ..
  · exact Keeps.addLog ..

theorem raise_keeps (r : Fault) (s : State) : Keeps s (raise r s) := { Keeps.refl s with }

theorem engineWrite_keeps (a : Addr) (v : Word) (s : State) : Keeps s (engineWrite a v s) :=
  busWriteWith_keeps _ (fun _ _ => raise_keeps ..) a v s

/-! ## The engine's loops, each induction packaged once -/

/-- What every access keeps, the 16-bit loop keeps. -/
theorem wordLoop_induct (P : State → Prop) (hr : ∀ a s, P s → P (busRead a s).2)
    (hw : ∀ a v s, P s → P (engineWrite a v s)) (step n src dst : Nat) (s : State) (h : P s) :
    P (wordLoop step n src dst s) := by
  induction n generalizing src dst s with
  | zero => exact h
  | succ n ih =>
    simp only [wordLoop]
    split
    · exact h
    · exact ih _ _ _ (hw _ _ _ (hr _ _ h))

/-- What every access keeps, the NAND loop keeps. -/
theorem nandLoop_induct (P : State → Prop) (hr : ∀ s, P s → P (nandDataRead s).2)
    (hw : ∀ a v s, P s → P (engineWrite a v s)) (n dst : Nat) (s : State) (h : P s) :
    P (nandLoop n dst s) := by
  induction n generalizing dst s with
  | zero => exact h
  | succ n ih =>
    simp only [nandLoop]
    split
    · exact h
    · exact ih _ _ (hw _ _ _ (hr _ (hr _ h)))

theorem wordLoop_keeps (step n src dst : Nat) (s : State) : Keeps s (wordLoop step n src dst s) :=
  wordLoop_induct (Keeps s) (fun a t h => h.trans (busRead_keeps a t).toKeeps)
    (fun a v t h => h.trans (engineWrite_keeps a v t)) step n src dst s (Keeps.refl s)

theorem nandLoop_keeps (n dst : Nat) (s : State) : Keeps s (nandLoop n dst s) :=
  nandLoop_induct (Keeps s) (fun t h => h.trans (nandDataRead_keeps t).toKeeps)
    (fun a v t h => h.trans (engineWrite_keeps a v t)) n dst s (Keeps.refl s)

/-- `Keeps` but for the phase, which a run of the engine ends in Idle. -/
structure RunKeeps (s t : State) : Prop where
  keeps : Keeps (s.setPhase .idle) t

/-- Everything a run of the engine can do, given what its transfer can do. -/
theorem engineRun_keeps (ch : Channel) (body : Transfer → State → State)
    (hb : ∀ x s, Keeps s (body x s)) (s : State) : RunKeeps s (engineRun ch body s) := by
  have h := hb (latch s.dma ch) (s.setPhase .copying)
  unfold engineRun
  refine ⟨?_⟩
  dsimp only
  split <;> exact { h with phase := rfl }

theorem runNand8_keeps (ch : Channel) (s : State) : RunKeeps s (runNand8 ch s) :=
  engineRun_keeps ch _ (fun _ t => nandLoop_keeps _ _ t) s

theorem runCopy16_keeps (ch : Channel) (s : State) : RunKeeps s (runCopy16 ch s) :=
  engineRun_keeps ch _ (fun _ t => wordLoop_keeps _ _ _ _ t) s

theorem runCopy16b_keeps (ch : Channel) (s : State) : RunKeeps s (runCopy16b ch s) :=
  engineRun_keeps ch _ (fun _ t => wordLoop_keeps _ _ _ _ t) s

theorem runFill16_keeps (ch : Channel) (s : State) : RunKeeps s (runFill16 ch s) :=
  engineRun_keeps ch _ (fun _ t => wordLoop_keeps _ _ _ _ t) s

theorem runUnhandled_keeps (ch : Channel) (mode : Word) (s : State) :
    RunKeeps s (runUnhandled ch mode s) :=
  engineRun_keeps ch _ (fun _ t => Keeps.addLog t _) s

theorem RunKeeps.of_triggered {s t : State} (h : RunKeeps (s.setPhase .triggered) t) : RunKeeps s t :=
  ⟨{ h.keeps with }⟩

theorem runChannel_keeps (ch : Channel) (s : State) : RunKeeps s (runChannel ch s) := by
  unfold runChannel
  dsimp only
  split
  · exact (runNand8_keeps ch _).of_triggered
  · exact (runCopy16_keeps ch _).of_triggered
  · exact (runCopy16b_keeps ch _).of_triggered
  · exact (runFill16_keeps ch _).of_triggered
  · exact (runUnhandled_keeps ch _ _).of_triggered

theorem RunKeeps.toKeeps {s t : State} (h : RunKeeps s t) (hs : s.phase = .idle) : Keeps s t :=
  { h.keeps with phase := h.keeps.phase.trans hs.symm }

/-- Everything the nested-trigger test lets happen. -/
theorem whenIdle_keeps (d : Word) (f : State → State) (hf : ∀ s, RunKeeps s (f s)) (s : State) :
    Keeps s (whenIdle d f s) := by
  unfold whenIdle
  split
  · exact (hf s).toKeeps ‹_›
  · exact raise_keeps ..
  · exact raise_keeps ..

theorem runKeeps_raise (r : Fault) (s : State) (hs : s.phase = .idle) : RunKeeps s (raise r s) :=
  ⟨{ Keeps.refl s with phase := hs }⟩

/-- Everything a trigger write can do. -/
theorem triggerWrite_keeps (d : Word) (s : State) : Keeps s (triggerWrite d s) := by
  unfold triggerWrite whenIdle
  split
  · split
    · exact (runChannel_keeps _ s).toKeeps ‹_›
    · exact raise_keeps ..
  · exact raise_keeps ..
  · exact raise_keeps ..

/-! ## The CPU's accesses -/

/-- When a read by the CPU answers a next state, and which. -/
theorem cpuRead_next {f : State → Word × State} {s t : State} (h : cpuRead f s = .next t) :
    s.fault = none ∧ t = (f s).2.setReadData (f s).1 := by
  unfold cpuRead at h
  split at h
  · cases h
  · exact ⟨‹_›, by cases h; rfl⟩

/-- When a write by the CPU answers a next state, and which. -/
theorem cpuWrite_next {f : State → State} {s t : State} (h : cpuWrite f s = .next t) :
    s.fault = none ∧ t = f s := by
  unfold cpuWrite at h
  split at h
  · cases h
  · exact ⟨‹_›, by cases h; rfl⟩

@[simp] theorem cpuRead_of_none {f : State → Word × State} {s : State} (h : s.fault = none) :
    cpuRead f s = .next ((f s).2.setReadData (f s).1) := by
  simp [cpuRead, h]

@[simp] theorem cpuWrite_of_none {f : State → State} {s : State} (h : s.fault = none) :
    cpuWrite f s = .next (f s) := by
  simp [cpuWrite, h]

@[simp] theorem cpuRead_of_fault {f : State → Word × State} {s : State} {r : Fault}
    (h : s.fault = some r) : cpuRead f s = .fault r := by
  simp [cpuRead, h]

@[simp] theorem cpuWrite_of_fault {f : State → State} {s : State} {r : Fault}
    (h : s.fault = some r) : cpuWrite f s = .fault r := by
  simp [cpuWrite, h]

end Sys2Proof.Machine
end

