-- ==== Sys2Proof/Laws/Engine.lean ====
section
/-! SUPPORT. What the bus, the sequencer and the engine's loops answer: the word and the state, each once. -/

namespace Sys2Proof.Machine

/-! ## Internal RAM through the bus -/

theorem busTarget_iram {c : Config} {a : Addr} (hv : c.Valid) (h : c.inIram a.toNat = true) :
    busTarget c a = .iram := by
  unfold busTarget
  rw [(hv.apart a.toNat).1 h, h]
  rfl

theorem inIram_of_inRam {c : Config} {a n j : Nat} (h : inRam c a n) (hj : j < n)
    (ha : a + j < 2 ^ 32) : c.inIram (BitVec.ofNat 32 (a + j) : Addr).toNat = true := by
  unfold inRam at h
  rw [addr_toNat ha]
  exact decide_eq_true (by omega)

theorem busRead_ram {s : State} {a n j : Nat} (hv : s.cfg.Valid) (h : inRam s.cfg a n) (hj : j < n)
    (ha : a + j < 2 ^ 32) :
    busRead (BitVec.ofNat 32 (a + j)) s = (s.iram.readWord (a + j - s.cfg.iramBase.toNat), s) := by
  unfold busRead
  rw [busTarget_iram hv (inIram_of_inRam h hj ha)]
  simp only [iramRead, addr_toNat ha]

theorem engineWrite_ram {s : State} {a n j : Nat} {v : Word} (hv : s.cfg.Valid) (h : inRam s.cfg a n)
    (hj : j < n) (ha : a + j < 2 ^ 32) :
    engineWrite (BitVec.ofNat 32 (a + j)) v s =
      s.setIram (s.iram.writeWord (a + j - s.cfg.iramBase.toNat) v) := by
  unfold engineWrite busWriteWith
  rw [busTarget_iram hv (inIram_of_inRam h hj ha)]
  simp only [iramWrite, addr_toNat ha]

/-! ## The nested-trigger test -/

theorem whenIdle_of_idle {d : Word} {f : State → State} {s : State} (h : s.phase = .idle) :
    whenIdle d f s = f s := by
  rw [whenIdle, h]

theorem whenIdle_of_not_idle {d : Word} {f : State → State} {s : State} (h : s.phase ≠ .idle) :
    whenIdle d f s = raise (.dmaNestedTrigger d) s := by
  unfold whenIdle
  cases hp : s.phase
  · exact absurd hp h
  · rfl
  · rfl

/-! ## A run of the engine -/

/-- A run whose transfer ends without a fault: the transfer's effect, and the channel cleared. -/
theorem engineRun_of_ok {ch : Channel} {body : Transfer → State → State} {s u : State}
    (hu : body (latch s.dma ch) (s.setPhase .copying) = u.setPhase .copying) (hf : u.fault = none)
    (hp : u.phase = .idle) : engineRun ch body s = u.clearDma ch := by
  unfold engineRun
  rw [hu]
  simp only [State.setPhase_fault, hf]
  cases u
  cases hp
  rfl

/-! ## The loops -/

theorem wordLoop_succ {step n src dst : Nat} {s : State} (hf : s.fault = none) :
    wordLoop step (n + 1) src dst s =
      wordLoop step n (src + step) (dst + 1)
        (engineWrite (BitVec.ofNat 32 dst) (busRead (BitVec.ofNat 32 src) s).1
          (busRead (BitVec.ofNat 32 src) s).2) := by
  simp only [wordLoop, hf]

/-- A loop that meets a fault goes no further. -/
theorem wordLoop_of_fault {step n src dst : Nat} {s : State} {r : Fault} (hf : s.fault = some r) :
    wordLoop step n src dst s = s := by
  cases n with
  | zero => rfl
  | succ n => simp only [wordLoop, hf]

/-- The memory after `n` words copied upward one at a time. -/
def copyWords (step : Nat) : Nat → Nat → Nat → Memory → Memory
  | 0, _, _, m => m
  | n + 1, src, dst, m => copyWords step n (src + step) (dst + 1) (m.writeWord dst (m.readWord src))

theorem copyWords_wf {step n src dst : Nat} {m : Memory} (h : m.wf) :
    (copyWords step n src dst m).wf := by
  induction n generalizing src dst m with
  | zero => exact h
  | succ n ih => exact ih (Memory.writeWord_wf h _ _)

theorem copyWords_byte_other {step n src dst k : Nat} {m : Memory}
    (h : ¬(dst ≤ k / 2 ∧ k / 2 < dst + n)) : (copyWords step n src dst m).readByte k = m.readByte k := by
  induction n generalizing src dst m with
  | zero => rfl
  | succ n ih =>
    simp only [copyWords]
    rw [ih (by omega), Memory.readByte_writeWord_other _ _ (by omega)]

/-- The 16-bit loop from internal RAM to internal RAM is the copy of the memory, and nothing else. -/
theorem wordLoop_ram {step n src dst : Nat} {s : State} (hst : step ≤ 1) (hv : s.cfg.Valid)
    (hf : s.fault = none) (hs : n = 0 ∨ inRam s.cfg src (step * (n - 1) + 1)) (hd : inRam s.cfg dst n)
    (hsrc : src + n < 2 ^ 32) (hdst : dst + n < 2 ^ 32) :
    wordLoop step n src dst s =
      s.setIram (copyWords step n (src - s.cfg.iramBase.toNat) (dst - s.cfg.iramBase.toNat) s.iram) := by
  induction n generalizing src dst s with
  | zero => rfl
  | succ n ih =>
    have hs' : inRam s.cfg src (step * n + 1) := by
      rcases hs with h | h
      · cases h
      · simpa using h
    have r := busRead_ram hv hs' (j := 0) (by omega) (by omega)
    have w := engineWrite_ram (v := s.iram.readWord (src - s.cfg.iramBase.toNat)) hv hd (j := 0)
      (by omega) (by omega)
    rw [Nat.add_zero] at r w
    rw [wordLoop_succ hf, r]
    simp only [w]
    rw [ih]
    · simp only [State.setIram, copyWords]
      unfold inRam at hs' hd
      congr 2 <;> omega
    · exact hv
    · exact hf
    · rcases Nat.eq_zero_or_pos n with h | h
      · exact .inl h
      · refine .inr ?_
        have : step = 0 ∨ step = 1 := by omega
        unfold inRam at hs' ⊢
        rw [State.setIram_cfg]
        rcases this with rfl | rfl <;> omega
    · unfold inRam at hd ⊢
      rw [State.setIram_cfg]
      omega
    · omega
    · omega

/-- The memory after `n` given words written upward. -/
def putWords (f : Nat → Word) : Nat → Nat → Memory → Memory
  | 0, _, m => m
  | n + 1, dst, m => putWords (fun j => f (j + 1)) n (dst + 1) (m.writeWord dst (f 0))

theorem putWords_wf {f : Nat → Word} {n dst : Nat} {m : Memory} (h : m.wf) :
    (putWords f n dst m).wf := by
  induction n generalizing f dst m with
  | zero => exact h
  | succ n ih => exact ih (Memory.writeWord_wf h _ _)

theorem putWords_byte_other {f : Nat → Word} {n dst k : Nat} {m : Memory}
    (h : ¬(dst ≤ k / 2 ∧ k / 2 < dst + n)) : (putWords f n dst m).readByte k = m.readByte k := by
  induction n generalizing f dst m with
  | zero => rfl
  | succ n ih =>
    simp only [putWords]
    rw [ih (by omega), Memory.readByte_writeWord_other _ _ (by omega)]

theorem putWords_word {f : Nat → Word} {n dst j : Nat} {m : Memory} (hw : m.wf) (hj : j < n) :
    (putWords f n dst m).readWord (dst + j) = f j := by
  induction n generalizing f dst m j with
  | zero => omega
  | succ n ih =>
    simp only [putWords]
    cases j with
    | zero =>
      rw [Nat.add_zero, Memory.readWord, putWords_byte_other (by omega), putWords_byte_other (by omega)]
      exact Memory.readWord_writeWord_same hw _ _
    | succ j =>
      rw [show dst + (j + 1) = dst + 1 + j by omega]
      exact ih (Memory.writeWord_wf hw _ _) (by omega)

/-! ## The sequencer -/

/-- Everything a data read does: the byte, the position one further, the events. -/
theorem nandDataRead_eq (s : State) :
    nandDataRead s =
      ((deliveredByte s.cfg s.nandCmd s.nandAddrHi s.nandAddrLo s.nandPos).setWidth 16,
        { s with nandPos := s.nandPos + 1, log := s.log ++ deliveredEvents s.nandCmd 1 }) := by
  unfold nandDataRead nandOp deliveredByte deliveredEvents
  by_cases h1 : s.nandCmd = 0x90
  · rw [if_pos h1, if_pos h1, if_pos (.inl h1), List.append_nil]
    rfl
  by_cases h2 : s.nandCmd = 0x00
  · rw [if_neg h1, if_pos h2, if_neg h1, if_pos h2, if_pos (.inr (.inl h2)), List.append_nil]
    simp only [nandReadImage, nandOffset_eq]
    rfl
  by_cases h3 : s.nandCmd = 0x70
  · rw [if_neg h1, if_neg h2, if_pos h3, if_neg h1, if_neg h2, if_pos (.inr (.inr h3)), List.append_nil]
    rfl
  · rw [if_neg h1, if_neg h2, if_neg h3, if_neg h1, if_neg h2,
      if_neg (by rintro (h | h | h) <;> contradiction)]
    rfl

theorem deliveredEvents_append (c : Byte) (m n : Nat) :
    deliveredEvents c m ++ deliveredEvents c n = deliveredEvents c (m + n) := by
  unfold deliveredEvents
  split
  · rfl
  · simp [List.replicate_append_replicate]

theorem nandLoop_succ {n dst : Nat} {s : State} (hf : s.fault = none) :
    nandLoop (n + 1) dst s =
      nandLoop n (dst + 1)
        (engineWrite (BitVec.ofNat 32 dst)
          (packBytes (lowByte (nandDataRead s).1) (lowByte (nandDataRead (nandDataRead s).2).1))
          (nandDataRead (nandDataRead s).2).2) := by
  simp only [nandLoop, hf]

/-- The data port read through the bus is a data read (43_nand R193). -/
theorem busRead_dataPort (s : State) : busRead 0x7854 s = nandDataRead s := by
  have h : busTarget s.cfg 0x7854 = .reg .nandData := (busTarget_sysreg rfl).trans (by decide)
  unfold busRead
  rw [h]
  rfl

/-- A NAND loop that meets a fault goes no further. -/
theorem nandLoop_of_fault {n dst : Nat} {s : State} {r : Fault} (hf : s.fault = some r) :
    nandLoop n dst s = s := by
  cases n with
  | zero => rfl
  | succ n => simp only [nandLoop, hf]

/-! ## No access of a transfer looks at the phase -/

theorem slotRead_setPhase (i : CsIndex) (r : Nat) (p : DmaPhase) (s : State) :
    slotRead i r (s.setPhase p) = ((slotRead i r s).1, (slotRead i r s).2.setPhase p) := by
  unfold slotRead
  rw [State.setPhase_slots]
  split <;> rfl

theorem slotWrite_setPhase (i : CsIndex) (r : Nat) (v : Word) (p : DmaPhase) (s : State) :
    slotWrite i r v (s.setPhase p) = (slotWrite i r v s).setPhase p := by
  unfold slotWrite
  rw [State.setPhase_slots]
  split <;> rfl

theorem csReadAt_setPhase (o : Nat) (found : Option (CsIndex × Nat)) (p : DmaPhase) (s : State) :
    csReadAt o found (s.setPhase p) = ((csReadAt o found s).1, (csReadAt o found s).2.setPhase p) := by
  cases found with
  | none => rfl
  | some q => exact slotRead_setPhase ..

theorem csWriteAt_setPhase (o : Nat) (v : Word) (found : Option (CsIndex × Nat)) (p : DmaPhase)
    (s : State) : csWriteAt o v found (s.setPhase p) = (csWriteAt o v found s).setPhase p := by
  cases found with
  | none => rfl
  | some q => exact slotWrite_setPhase ..

theorem csSpaceRead_setPhase (o : Nat) (p : DmaPhase) (s : State) :
    csSpaceRead o (s.setPhase p) = ((csSpaceRead o s).1, (csSpaceRead o s).2.setPhase p) :=
  csReadAt_setPhase ..

theorem csSpaceWrite_setPhase (o : Nat) (v : Word) (p : DmaPhase) (s : State) :
    csSpaceWrite o v (s.setPhase p) = (csSpaceWrite o v s).setPhase p :=
  csWriteAt_setPhase ..

theorem nandDataRead_setPhase (p : DmaPhase) (s : State) :
    nandDataRead (s.setPhase p) = ((nandDataRead s).1, (nandDataRead s).2.setPhase p) := by
  rw [nandDataRead_eq, nandDataRead_eq]
  rfl

theorem busRead_setPhase (a : Addr) (p : DmaPhase) (s : State) :
    busRead a (s.setPhase p) = ((busRead a s).1, (busRead a s).2.setPhase p) := by
  unfold busRead
  rw [State.setPhase_cfg]
  generalize busTarget s.cfg a = t
  cases t
  case reg r =>
    cases r
    case nandData => exact nandDataRead_setPhase p s
    all_goals rfl
  case direct => exact csSpaceRead_setPhase ..
  case banked =>
    dsimp only
    unfold bankedRead bankRead
    rw [State.setPhase_cfg, State.setPhase_banksw]
    split
    · exact csSpaceRead_setPhase ..
    · rfl
  all_goals rfl

theorem engineWrite_setPhase (a : Addr) (v : Word) (p : DmaPhase) (s : State) :
    engineWrite a v (s.setPhase p) = (engineWrite a v s).setPhase p := by
  unfold engineWrite busWriteWith
  rw [State.setPhase_cfg]
  generalize busTarget s.cfg a = t
  cases t
  case reg r => cases r <;> rfl
  case direct => exact csSpaceWrite_setPhase ..
  case banked =>
    dsimp only
    unfold bankedWrite bankWrite
    rw [State.setPhase_cfg, State.setPhase_banksw]
    split
    · exact csSpaceWrite_setPhase ..
    · rfl
  all_goals rfl

theorem wordLoop_setPhase (step n src dst : Nat) (p : DmaPhase) (s : State) :
    wordLoop step n src dst (s.setPhase p) = (wordLoop step n src dst s).setPhase p := by
  induction n generalizing src dst s with
  | zero => rfl
  | succ n ih =>
    cases hf : s.fault with
    | some r => rw [wordLoop_of_fault hf, wordLoop_of_fault (s := s.setPhase p) hf]
    | none =>
      rw [wordLoop_succ hf, wordLoop_succ (s := s.setPhase p) hf, busRead_setPhase,
        engineWrite_setPhase, ih]

theorem nandLoop_setPhase (n dst : Nat) (p : DmaPhase) (s : State) :
    nandLoop n dst (s.setPhase p) = (nandLoop n dst s).setPhase p := by
  induction n generalizing dst s with
  | zero => rfl
  | succ n ih =>
    cases hf : s.fault with
    | some r => rw [nandLoop_of_fault hf, nandLoop_of_fault (s := s.setPhase p) hf]
    | none =>
      rw [nandLoop_succ hf, nandLoop_succ (s := s.setPhase p) hf]
      simp only [nandDataRead_setPhase, engineWrite_setPhase, ih]

/-! ## Where a transfer can fault -/

/-- A transfer in two parts: the second goes on where the first stopped, and not at all after a fault. -/
theorem wordLoop_add (step m n src dst : Nat) (s : State) :
    wordLoop step (m + n) src dst s =
      wordLoop step n (src + step * m) (dst + m) (wordLoop step m src dst s) := by
  induction m generalizing src dst s with
  | zero => simp [wordLoop]
  | succ m ih =>
    cases hf : s.fault with
    | some r => rw [wordLoop_of_fault hf, wordLoop_of_fault hf, wordLoop_of_fault hf]
    | none =>
      rw [Nat.add_right_comm, wordLoop_succ hf, wordLoop_succ hf, ih]
      congr 1
      · rw [Nat.mul_succ]
        omega
      · omega

theorem nandLoop_add (m n dst : Nat) (s : State) :
    nandLoop (m + n) dst s = nandLoop n (dst + m) (nandLoop m dst s) := by
  induction m generalizing dst s with
  | zero => simp [nandLoop]
  | succ m ih =>
    cases hf : s.fault with
    | some r => rw [nandLoop_of_fault hf, nandLoop_of_fault hf, nandLoop_of_fault hf]
    | none =>
      rw [Nat.add_right_comm, nandLoop_succ hf, nandLoop_succ hf, ih]
      congr 1
      omega

theorem slotWrite_fault (i : CsIndex) (r : Nat) (v : Word) (s : State) :
    (slotWrite i r v s).fault = s.fault := by
  unfold slotWrite
  split <;> rfl

theorem csWriteAt_fault (o : Nat) (v : Word) (found : Option (CsIndex × Nat)) (s : State) :
    (csWriteAt o v found s).fault = s.fault := by
  cases found with
  | none => rfl
  | some q => exact slotWrite_fault ..

theorem csSpaceWrite_fault (o : Nat) (v : Word) (s : State) :
    (csSpaceWrite o v s).fault = s.fault := csWriteAt_fault ..

/-- The engine's write faults nowhere but at the trigger register. -/
theorem engineWrite_fault {a : Addr} {v : Word} {s : State}
    (h : busTarget s.cfg a ≠ .reg .dmaStatus) : (engineWrite a v s).fault = s.fault := by
  unfold engineWrite busWriteWith
  generalize busTarget s.cfg a = t at h
  cases t
  case reg r =>
    cases r
    case dmaStatus => exact absurd rfl h
    all_goals rfl
  case direct => exact csSpaceWrite_fault ..
  case banked =>
    dsimp only
    unfold bankedWrite bankWrite
    split
    · exact csSpaceWrite_fault ..
    · rfl
  all_goals rfl

theorem dmaRegAt_ne_dmaStatus (o : Nat) : dmaRegAt o ≠ some .dmaStatus := by
  unfold dmaRegAt
  split <;> exact nofun

theorem ite_ne {c : Prop} [Decidable c] {x y z : Option Reg} (hx : x ≠ z) (hy : y ≠ z) :
    (if c then x else y) ≠ z := by
  split
  · exact hx
  · exact hy

theorem selectReg_ne_dmaStatus {a : Nat} (h : a ≠ 0x7ABF) : selectReg a ≠ some .dmaStatus := by
  unfold selectReg
  rw [if_neg h]
  repeat' apply ite_ne
  all_goals first | exact dmaRegAt_ne_dmaStatus _ | exact nofun

theorem sysregTarget_ne_dmaStatus {a : Nat} (h : a ≠ 0x7ABF) : sysregTarget a ≠ .reg .dmaStatus := by
  unfold sysregTarget
  split
  · exact nofun
  · split
    · exact nofun
    · split
      · rename_i r hr
        rintro ⟨⟩
        exact selectReg_ne_dmaStatus h hr
      · exact nofun

/-- The trigger register stands at `0x7ABF` alone (30_encoding R101). -/
theorem busTarget_ne_dmaStatus {c : Config} {a : Addr} (h : a.toNat ≠ 0x7ABF) :
    busTarget c a ≠ .reg .dmaStatus := by
  rcases busTarget_cases c a with ⟨-, e⟩ | ⟨e, -⟩ | ⟨e, -⟩ | ⟨e, -⟩ | ⟨e, -⟩ | ⟨e, -⟩ <;> rw [e]
  · exact sysregTarget_ne_dmaStatus h
  all_goals exact nofun

/-- The accesses of a transfer before its destination reaches the trigger register raise no fault. -/
theorem wordLoop_fault_none {step n src dst : Nat} {s : State} (hf : s.fault = none)
    (h : dst + n ≤ 0x7ABF) : (wordLoop step n src dst s).fault = none := by
  induction n generalizing src dst s with
  | zero => exact hf
  | succ n ih =>
    rw [wordLoop_succ hf]
    refine ih ?_ (by omega)
    rw [engineWrite_fault (busTarget_ne_dmaStatus (by rw [addr_toNat (by omega)]; omega)),
      (busRead_keeps _ s).fault]
    exact hf

theorem nandLoop_fault_none {n dst : Nat} {s : State} (hf : s.fault = none)
    (h : dst + n ≤ 0x7ABF) : (nandLoop n dst s).fault = none := by
  induction n generalizing dst s with
  | zero => exact hf
  | succ n ih =>
    rw [nandLoop_succ hf]
    refine ih ?_ (by omega)
    rw [engineWrite_fault (busTarget_ne_dmaStatus (by rw [addr_toNat (by omega)]; omega)),
      (nandDataRead_keeps _).fault, (nandDataRead_keeps s).fault]
    exact hf

end Sys2Proof.Machine
end

