-- ==== Sys2Proof/Laws/Exec.lean ====
section
/-! SUPPORT. Once for all operations: what one of them can do to the state. The claims over all operations are
short case analyses over these. -/

namespace Sys2Proof.Machine

/-- A read by the CPU changes `readData` and what its read changes. -/
theorem cpuRead_keeps {f : State → Word × State} (k : ∀ s, ReadKeeps s (f s).2) {s t : State}
    (h : cpuRead f s = .next t) : Keeps (s.setReadData t.readData) t := by
  obtain ⟨-, rfl⟩ := cpuRead_next h
  exact { (k s).toKeeps with readData := rfl }

/-- A write by the CPU changes what its write changes. -/
theorem cpuWrite_keeps {f : State → State} {s t : State} (k : Keeps s (f s))
    (h : cpuWrite f s = .next t) : Keeps (s.setReadData t.readData) t := by
  obtain ⟨-, rfl⟩ := cpuWrite_next h
  exact { k with readData := rfl }

theorem readParam_keeps {ch : Channel} {k : DmaReg} {s t : State} (h : readParam ch k s = .next t) :
    Keeps (s.setReadData t.readData) t :=
  cpuRead_keeps (f := fun u => plainRead (u.dma.get ch k) u) (fun u => ReadKeeps.refl u) h

theorem writeParam_keeps {ch : Channel} {k : DmaReg} {v : Word} {s t : State}
    (h : writeParam ch k v s = .next t) : Keeps (s.setReadData t.readData) t :=
  cpuWrite_keeps (f := fun u => u.setDma ch k v) { Keeps.refl s with } h

/-- Everything an operation other than RESET and BOOTSTRAP.NAND can do, its RAM write lying in RAM. -/
theorem exec_keeps {i : Instr} {s t : State} (h : exec i s = .next t) (h1 : i ≠ .reset)
    (h2 : i ≠ .bootstrapNand) (hw : ∀ a v, i = .iramW a v → s.cfg.inIram a.toNat = true) :
    Keeps (s.setReadData t.readData) t := by
  cases i
  case reset => contradiction
  case bootstrapNand => contradiction
  case iramW a v => exact cpuWrite_keeps (iramWrite_keeps a v s (hw a v rfl)) h
  case dmatrigW v => exact cpuWrite_keeps (triggerWrite_keeps v s) h
  case videoR a => exact cpuRead_keeps (videoRead_keeps a) h
  case audioR a => exact cpuRead_keeps (audioRead_keeps a) h
  case videoW a v => exact cpuWrite_keeps { Keeps.refl s with video := List.prefix_append _ _ } h
  case audioW a v => exact cpuWrite_keeps { Keeps.refl s with audio := List.prefix_append _ _ } h
  case extwinR a => exact cpuRead_keeps (directRead_keeps a) h
  case extwinW a v => exact cpuWrite_keeps (directWrite_keeps a v s) h
  case bankwinR a => exact cpuRead_keeps (bankedRead_keeps a) h
  case bankwinW a v => exact cpuWrite_keeps (bankedWrite_keeps a v s) h
  case dmaNand8 ch => exact cpuWrite_keeps (whenIdle_keeps _ _ (runNand8_keeps ch) s) h
  case dmaCopy16 ch => exact cpuWrite_keeps (whenIdle_keeps _ _ (runCopy16_keeps ch) s) h
  case dmaCopy16b ch => exact cpuWrite_keeps (whenIdle_keeps _ _ (runCopy16b_keeps ch) s) h
  case dmaFill16 ch => exact cpuWrite_keeps (whenIdle_keeps _ _ (runFill16_keeps ch) s) h
  case dmaUnhandled ch m => exact cpuWrite_keeps (whenIdle_keeps _ _ (runUnhandled_keeps ch m) s) h
  case trigCh0 => exact cpuWrite_keeps (whenIdle_keeps _ _ (runChannel_keeps _) s) h
  case trigCh1 => exact cpuWrite_keeps (whenIdle_keeps _ _ (runChannel_keeps _) s) h
  case trigCh2 => exact cpuWrite_keeps (whenIdle_keeps _ _ (runChannel_keeps _) s) h
  case trigInvalid d =>
    refine cpuWrite_keeps ?_ h
    unfold whenIdle
    split <;> exact raise_keeps ..
  case nanddataR => exact cpuRead_keeps nandDataRead_keeps h
  case nandRead => exact cpuRead_keeps (fun s => ReadKeeps.setNandPos ..) h
  case nandStatus => exact cpuRead_keeps (fun s => ReadKeeps.setNandPos ..) h
  case nandReadid => exact cpuRead_keeps (fun s => ReadKeeps.setNandPos ..) h
  case nandUnknown b =>
    exact cpuRead_keeps (fun s => { ReadKeeps.addLog s (.nandUnknownCommand b) with
      toKeeps := { Keeps.addLog s (.nandUnknownCommand b) with } }) h
  all_goals first
    | exact cpuRead_keeps (fun s => ReadKeeps.refl s) h
    | exact cpuRead_keeps (fun s => ReadKeeps.addLog s _) h
    | exact cpuWrite_keeps (Keeps.refl s) h
    | exact cpuWrite_keeps (Keeps.addLog s _) h
    | exact readParam_keeps h
    | exact writeParam_keeps h
    | (unfold exec at h; exact cpuWrite_keeps { Keeps.refl s with } h)

/-- What RESET answers, by boot source. -/
theorem reset_next {s t : State} (h : exec .reset s = .next t) :
    (s.cfg.bootSource = .nand ∧ bootFits s.cfg = true ∧ t = leaveReset (bootstrap (resetRegisters s))) ∨
      (s.cfg.bootSource ≠ .nand ∧ t = leaveReset (resetRegisters s)) := by
  have h : execReset s = .next t := h
  unfold execReset at h
  split at h
  · split at h
    · exact .inl ⟨‹_›, ‹_›, by cases h; rfl⟩
    · cases h
  · exact .inr ⟨by simp [*], by cases h; rfl⟩
  · exact .inr ⟨by simp [*], by cases h; rfl⟩

/-- What BOOTSTRAP.NAND answers. -/
theorem bootstrapNand_next {s t : State} (h : exec .bootstrapNand s = .next t) :
    bootFits s.cfg = true ∧ t = bootstrap s := by
  have h : execBootstrapNand s = .next t := h
  unfold execBootstrapNand at h
  split at h
  · exact ⟨‹_›, by cases h; rfl⟩
  · cases h

end Sys2Proof.Machine
end

