-- ==== Sys2Proof/Laws/PerInstr.lean ====
section
/-! SUPPORT. The per-instruction family `TableRow`: the selector word the encoder gives an operation matches
the `match` and `mask` of its row of spec/opcode_table.json (30_encoding R119). The rows are copied from the
table, not from the encoder. -/

namespace Sys2Proof.Laws.TableRow

/-- `match` and `mask` of a row. -/
structure Row where
  pattern : BitVec 33
  mask : BitVec 33

/-- The selector word of a code, in 33 bits; an EVENT has none. -/
def selector : Code → BitVec 33
  | .bus sel _ => sel
  | .dmaMode _ mode => mode.setWidth 33
  | .trig ordinal => ordinal.setWidth 33
  | .nandCmd byte => byte.setWidth 33
  | .reset => 0
  | .bootstrap => 0

/-- The row of an operation, as spec/opcode_table.json has it. -/
def row : Instr → Row
  | .bankswR => ⟨0x000007810, 0x1FFFFFFFF⟩
  | .bankswW _ => ⟨0x100007810, 0x1FFFFFFFF⟩
  | .cs0R => ⟨0x000007820, 0x1FFFFFFFF⟩
  | .cs0W _ => ⟨0x100007820, 0x1FFFFFFFF⟩
  | .cs1R => ⟨0x000007821, 0x1FFFFFFFF⟩
  | .cs1W _ => ⟨0x100007821, 0x1FFFFFFFF⟩
  | .cs2R => ⟨0x000007822, 0x1FFFFFFFF⟩
  | .cs2W _ => ⟨0x100007822, 0x1FFFFFFFF⟩
  | .cs3R => ⟨0x000007823, 0x1FFFFFFFF⟩
  | .cs3W _ => ⟨0x100007823, 0x1FFFFFFFF⟩
  | .cs4R => ⟨0x000007824, 0x1FFFFFFFF⟩
  | .cs4W _ => ⟨0x100007824, 0x1FFFFFFFF⟩
  | .nandcmdW _ => ⟨0x100007851, 0x1FFFFFFFF⟩
  | .nandcmdR => ⟨0x000007851, 0x1FFFFFFFF⟩
  | .nandadrlW _ => ⟨0x100007852, 0x1FFFFFFFF⟩
  | .nandadrlR => ⟨0x000007852, 0x1FFFFFFFF⟩
  | .nandadrhW _ => ⟨0x100007853, 0x1FFFFFFFF⟩
  | .nandadrhR => ⟨0x000007853, 0x1FFFFFFFF⟩
  | .nanddataR => ⟨0x000007854, 0x1FFFFFFFF⟩
  | .nanddataW _ => ⟨0x100007854, 0x1FFFFFFFF⟩
  | .dma0ModeR => ⟨0x000007A80, 0x1FFFFFFFF⟩
  | .dma0ModeW _ => ⟨0x100007A80, 0x1FFFFFFFF⟩
  | .dma0SrcloR => ⟨0x000007A81, 0x1FFFFFFFF⟩
  | .dma0SrcloW _ => ⟨0x100007A81, 0x1FFFFFFFF⟩
  | .dma0DstloR => ⟨0x000007A82, 0x1FFFFFFFF⟩
  | .dma0DstloW _ => ⟨0x100007A82, 0x1FFFFFFFF⟩
  | .dma0LenloR => ⟨0x000007A83, 0x1FFFFFFFF⟩
  | .dma0LenloW _ => ⟨0x100007A83, 0x1FFFFFFFF⟩
  | .dma0SrchiR => ⟨0x000007A84, 0x1FFFFFFFF⟩
  | .dma0SrchiW _ => ⟨0x100007A84, 0x1FFFFFFFF⟩
  | .dma0DsthiR => ⟨0x000007A85, 0x1FFFFFFFF⟩
  | .dma0DsthiW _ => ⟨0x100007A85, 0x1FFFFFFFF⟩
  | .dma0LenhiR => ⟨0x000007A86, 0x1FFFFFFFF⟩
  | .dma0LenhiW _ => ⟨0x100007A86, 0x1FFFFFFFF⟩
  | .dma1ModeR => ⟨0x000007A88, 0x1FFFFFFFF⟩
  | .dma1ModeW _ => ⟨0x100007A88, 0x1FFFFFFFF⟩
  | .dma1SrcloR => ⟨0x000007A89, 0x1FFFFFFFF⟩
  | .dma1SrcloW _ => ⟨0x100007A89, 0x1FFFFFFFF⟩
  | .dma1DstloR => ⟨0x000007A8A, 0x1FFFFFFFF⟩
  | .dma1DstloW _ => ⟨0x100007A8A, 0x1FFFFFFFF⟩
  | .dma1LenloR => ⟨0x000007A8B, 0x1FFFFFFFF⟩
  | .dma1LenloW _ => ⟨0x100007A8B, 0x1FFFFFFFF⟩
  | .dma1SrchiR => ⟨0x000007A8C, 0x1FFFFFFFF⟩
  | .dma1SrchiW _ => ⟨0x100007A8C, 0x1FFFFFFFF⟩
  | .dma1DsthiR => ⟨0x000007A8D, 0x1FFFFFFFF⟩
  | .dma1DsthiW _ => ⟨0x100007A8D, 0x1FFFFFFFF⟩
  | .dma1LenhiR => ⟨0x000007A8E, 0x1FFFFFFFF⟩
  | .dma1LenhiW _ => ⟨0x100007A8E, 0x1FFFFFFFF⟩
  | .dma2ModeR => ⟨0x000007A90, 0x1FFFFFFFF⟩
  | .dma2ModeW _ => ⟨0x100007A90, 0x1FFFFFFFF⟩
  | .dma2SrcloR => ⟨0x000007A91, 0x1FFFFFFFF⟩
  | .dma2SrcloW _ => ⟨0x100007A91, 0x1FFFFFFFF⟩
  | .dma2DstloR => ⟨0x000007A92, 0x1FFFFFFFF⟩
  | .dma2DstloW _ => ⟨0x100007A92, 0x1FFFFFFFF⟩
  | .dma2LenloR => ⟨0x000007A93, 0x1FFFFFFFF⟩
  | .dma2LenloW _ => ⟨0x100007A93, 0x1FFFFFFFF⟩
  | .dma2SrchiR => ⟨0x000007A94, 0x1FFFFFFFF⟩
  | .dma2SrchiW _ => ⟨0x100007A94, 0x1FFFFFFFF⟩
  | .dma2DsthiR => ⟨0x000007A95, 0x1FFFFFFFF⟩
  | .dma2DsthiW _ => ⟨0x100007A95, 0x1FFFFFFFF⟩
  | .dma2LenhiR => ⟨0x000007A96, 0x1FFFFFFFF⟩
  | .dma2LenhiW _ => ⟨0x100007A96, 0x1FFFFFFFF⟩
  | .dmasrctypeR => ⟨0x000007ABE, 0x1FFFFFFFF⟩
  | .dmasrctypeW _ => ⟨0x100007ABE, 0x1FFFFFFFF⟩
  | .dmastatusR => ⟨0x000007ABF, 0x1FFFFFFFF⟩
  | .dmatrigW _ => ⟨0x100007ABF, 0x1FFFFFFFF⟩
  | .videoR _ => ⟨0x000000000, 0x100000000⟩
  | .videoW _ _ => ⟨0x100000000, 0x100000000⟩
  | .audioR _ => ⟨0x000000000, 0x100000000⟩
  | .audioW _ _ => ⟨0x100000000, 0x100000000⟩
  | .sysregUnhR _ => ⟨0x000000000, 0x100000000⟩
  | .sysregUnhW _ _ => ⟨0x100000000, 0x100000000⟩
  | .iramR _ => ⟨0x000000000, 0x100000000⟩
  | .iramW _ _ => ⟨0x100000000, 0x100000000⟩
  | .iromR _ => ⟨0x000000000, 0x100000000⟩
  | .iromW _ _ => ⟨0x100000000, 0x100000000⟩
  | .extwinR _ => ⟨0x000000000, 0x100000000⟩
  | .extwinW _ _ => ⟨0x100000000, 0x100000000⟩
  | .bankwinR _ => ⟨0x000000000, 0x100000000⟩
  | .bankwinW _ _ => ⟨0x100000000, 0x100000000⟩
  | .unmappedR _ => ⟨0x000000000, 0x100000000⟩
  | .unmappedW _ _ => ⟨0x100000000, 0x100000000⟩
  | .dmaNand8 _ => ⟨0x1089, 0xFFFF⟩
  | .dmaCopy16 _ => ⟨0x0009, 0xFFFF⟩
  | .dmaCopy16b _ => ⟨0x4009, 0xFFFF⟩
  | .dmaFill16 _ => ⟨0x0089, 0xFFFF⟩
  | .dmaUnhandled _ _ => ⟨0x0000, 0x0000⟩
  | .trigCh0 => ⟨0x0001, 0xFFFF⟩
  | .trigCh1 => ⟨0x0002, 0xFFFF⟩
  | .trigCh2 => ⟨0x0003, 0xFFFF⟩
  | .trigInvalid _ => ⟨0x0000, 0x0000⟩
  | .nandRead => ⟨0x00, 0xFF⟩
  | .nandStatus => ⟨0x70, 0xFF⟩
  | .nandReadid => ⟨0x90, 0xFF⟩
  | .nandUnknown _ => ⟨0x00, 0x00⟩
  | .reset => ⟨0x0, 0x0⟩
  | .bootstrapNand => ⟨0x0, 0x0⟩

/-- The encoded operation selects its row. -/
def Statement (i : Instr) : Prop := selector (encode i) &&& (row i).mask = (row i).pattern

/-- The direction bit of a selector under the mask of the ranged rows. -/
theorem of_dir (w : Bool) (a : Addr) :
    busSel w a &&& 0x100000000 = if w then 0x100000000 else 0x000000000 := by
  have h : (0x100000000 : BitVec 33) = busSel true 0 := rfl
  have hz : (0 : BitVec 33) = busSel false 0 := rfl
  rw [← busSel_sel (busSel w a &&& 0x100000000)]
  have hw : selWrites (busSel w a &&& 0x100000000) = w := by
    rw [selWrites, BitVec.getLsbD_and, h]
    exact (congr (congrArg and (selWrites_busSel w a)) (selWrites_busSel true 0)).trans
      (Bool.and_true w)
  have ha : selAddr (busSel w a &&& 0x100000000) = 0 := by
    rw [selAddr, BitVec.extractLsb'_and, h]
    exact (congr (congrArg HAnd.hAnd (selAddr_busSel w a)) (selAddr_busSel true 0)).trans
      BitVec.and_zero
  rw [hw, ha]
  cases w <;> rfl

theorem bankswR : Statement .bankswR := 
  show busSel false 0x7810 &&& 0x1FFFFFFFF = 0x000007810 by decide
theorem bankswW (v : Word) : Statement (.bankswW v) := 
  show busSel true 0x7810 &&& 0x1FFFFFFFF = 0x100007810 by decide
theorem cs0R : Statement .cs0R := 
  show busSel false 0x7820 &&& 0x1FFFFFFFF = 0x000007820 by decide
theorem cs0W (v : Word) : Statement (.cs0W v) := 
  show busSel true 0x7820 &&& 0x1FFFFFFFF = 0x100007820 by decide
theorem cs1R : Statement .cs1R := 
  show busSel false 0x7821 &&& 0x1FFFFFFFF = 0x000007821 by decide
theorem cs1W (v : Word) : Statement (.cs1W v) := 
  show busSel true 0x7821 &&& 0x1FFFFFFFF = 0x100007821 by decide
theorem cs2R : Statement .cs2R := 
  show busSel false 0x7822 &&& 0x1FFFFFFFF = 0x000007822 by decide
theorem cs2W (v : Word) : Statement (.cs2W v) := 
  show busSel true 0x7822 &&& 0x1FFFFFFFF = 0x100007822 by decide
theorem cs3R : Statement .cs3R := 
  show busSel false 0x7823 &&& 0x1FFFFFFFF = 0x000007823 by decide
theorem cs3W (v : Word) : Statement (.cs3W v) := 
  show busSel true 0x7823 &&& 0x1FFFFFFFF = 0x100007823 by decide
theorem cs4R : Statement .cs4R := 
  show busSel false 0x7824 &&& 0x1FFFFFFFF = 0x000007824 by decide
theorem cs4W (v : Word) : Statement (.cs4W v) := 
  show busSel true 0x7824 &&& 0x1FFFFFFFF = 0x100007824 by decide
theorem nandcmdW (v : Word) : Statement (.nandcmdW v) := 
  show busSel true 0x7851 &&& 0x1FFFFFFFF = 0x100007851 by decide
theorem nandcmdR : Statement .nandcmdR := 
  show busSel false 0x7851 &&& 0x1FFFFFFFF = 0x000007851 by decide
theorem nandadrlW (v : Word) : Statement (.nandadrlW v) := 
  show busSel true 0x7852 &&& 0x1FFFFFFFF = 0x100007852 by decide
theorem nandadrlR : Statement .nandadrlR := 
  show busSel false 0x7852 &&& 0x1FFFFFFFF = 0x000007852 by decide
theorem nandadrhW (v : Word) : Statement (.nandadrhW v) := 
  show busSel true 0x7853 &&& 0x1FFFFFFFF = 0x100007853 by decide
theorem nandadrhR : Statement .nandadrhR := 
  show busSel false 0x7853 &&& 0x1FFFFFFFF = 0x000007853 by decide
theorem nanddataR : Statement .nanddataR := 
  show busSel false 0x7854 &&& 0x1FFFFFFFF = 0x000007854 by decide
theorem nanddataW (v : Word) : Statement (.nanddataW v) := 
  show busSel true 0x7854 &&& 0x1FFFFFFFF = 0x100007854 by decide
theorem dma0ModeR : Statement .dma0ModeR := 
  show busSel false 0x7A80 &&& 0x1FFFFFFFF = 0x000007A80 by decide
theorem dma0ModeW (v : Word) : Statement (.dma0ModeW v) := 
  show busSel true 0x7A80 &&& 0x1FFFFFFFF = 0x100007A80 by decide
theorem dma0SrcloR : Statement .dma0SrcloR := 
  show busSel false 0x7A81 &&& 0x1FFFFFFFF = 0x000007A81 by decide
theorem dma0SrcloW (v : Word) : Statement (.dma0SrcloW v) := 
  show busSel true 0x7A81 &&& 0x1FFFFFFFF = 0x100007A81 by decide
theorem dma0DstloR : Statement .dma0DstloR := 
  show busSel false 0x7A82 &&& 0x1FFFFFFFF = 0x000007A82 by decide
theorem dma0DstloW (v : Word) : Statement (.dma0DstloW v) := 
  show busSel true 0x7A82 &&& 0x1FFFFFFFF = 0x100007A82 by decide
theorem dma0LenloR : Statement .dma0LenloR := 
  show busSel false 0x7A83 &&& 0x1FFFFFFFF = 0x000007A83 by decide
theorem dma0LenloW (v : Word) : Statement (.dma0LenloW v) := 
  show busSel true 0x7A83 &&& 0x1FFFFFFFF = 0x100007A83 by decide
theorem dma0SrchiR : Statement .dma0SrchiR := 
  show busSel false 0x7A84 &&& 0x1FFFFFFFF = 0x000007A84 by decide
theorem dma0SrchiW (v : Word) : Statement (.dma0SrchiW v) := 
  show busSel true 0x7A84 &&& 0x1FFFFFFFF = 0x100007A84 by decide
theorem dma0DsthiR : Statement .dma0DsthiR := 
  show busSel false 0x7A85 &&& 0x1FFFFFFFF = 0x000007A85 by decide
theorem dma0DsthiW (v : Word) : Statement (.dma0DsthiW v) := 
  show busSel true 0x7A85 &&& 0x1FFFFFFFF = 0x100007A85 by decide
theorem dma0LenhiR : Statement .dma0LenhiR := 
  show busSel false 0x7A86 &&& 0x1FFFFFFFF = 0x000007A86 by decide
theorem dma0LenhiW (v : Word) : Statement (.dma0LenhiW v) := 
  show busSel true 0x7A86 &&& 0x1FFFFFFFF = 0x100007A86 by decide
theorem dma1ModeR : Statement .dma1ModeR := 
  show busSel false 0x7A88 &&& 0x1FFFFFFFF = 0x000007A88 by decide
theorem dma1ModeW (v : Word) : Statement (.dma1ModeW v) := 
  show busSel true 0x7A88 &&& 0x1FFFFFFFF = 0x100007A88 by decide
theorem dma1SrcloR : Statement .dma1SrcloR := 
  show busSel false 0x7A89 &&& 0x1FFFFFFFF = 0x000007A89 by decide
theorem dma1SrcloW (v : Word) : Statement (.dma1SrcloW v) := 
  show busSel true 0x7A89 &&& 0x1FFFFFFFF = 0x100007A89 by decide
theorem dma1DstloR : Statement .dma1DstloR := 
  show busSel false 0x7A8A &&& 0x1FFFFFFFF = 0x000007A8A by decide
theorem dma1DstloW (v : Word) : Statement (.dma1DstloW v) := 
  show busSel true 0x7A8A &&& 0x1FFFFFFFF = 0x100007A8A by decide
theorem dma1LenloR : Statement .dma1LenloR := 
  show busSel false 0x7A8B &&& 0x1FFFFFFFF = 0x000007A8B by decide
theorem dma1LenloW (v : Word) : Statement (.dma1LenloW v) := 
  show busSel true 0x7A8B &&& 0x1FFFFFFFF = 0x100007A8B by decide
theorem dma1SrchiR : Statement .dma1SrchiR := 
  show busSel false 0x7A8C &&& 0x1FFFFFFFF = 0x000007A8C by decide
theorem dma1SrchiW (v : Word) : Statement (.dma1SrchiW v) := 
  show busSel true 0x7A8C &&& 0x1FFFFFFFF = 0x100007A8C by decide
theorem dma1DsthiR : Statement .dma1DsthiR := 
  show busSel false 0x7A8D &&& 0x1FFFFFFFF = 0x000007A8D by decide
theorem dma1DsthiW (v : Word) : Statement (.dma1DsthiW v) := 
  show busSel true 0x7A8D &&& 0x1FFFFFFFF = 0x100007A8D by decide
theorem dma1LenhiR : Statement .dma1LenhiR := 
  show busSel false 0x7A8E &&& 0x1FFFFFFFF = 0x000007A8E by decide
theorem dma1LenhiW (v : Word) : Statement (.dma1LenhiW v) := 
  show busSel true 0x7A8E &&& 0x1FFFFFFFF = 0x100007A8E by decide
theorem dma2ModeR : Statement .dma2ModeR := 
  show busSel false 0x7A90 &&& 0x1FFFFFFFF = 0x000007A90 by decide
theorem dma2ModeW (v : Word) : Statement (.dma2ModeW v) := 
  show busSel true 0x7A90 &&& 0x1FFFFFFFF = 0x100007A90 by decide
theorem dma2SrcloR : Statement .dma2SrcloR := 
  show busSel false 0x7A91 &&& 0x1FFFFFFFF = 0x000007A91 by decide
theorem dma2SrcloW (v : Word) : Statement (.dma2SrcloW v) := 
  show busSel true 0x7A91 &&& 0x1FFFFFFFF = 0x100007A91 by decide
theorem dma2DstloR : Statement .dma2DstloR := 
  show busSel false 0x7A92 &&& 0x1FFFFFFFF = 0x000007A92 by decide
theorem dma2DstloW (v : Word) : Statement (.dma2DstloW v) := 
  show busSel true 0x7A92 &&& 0x1FFFFFFFF = 0x100007A92 by decide
theorem dma2LenloR : Statement .dma2LenloR := 
  show busSel false 0x7A93 &&& 0x1FFFFFFFF = 0x000007A93 by decide
theorem dma2LenloW (v : Word) : Statement (.dma2LenloW v) := 
  show busSel true 0x7A93 &&& 0x1FFFFFFFF = 0x100007A93 by decide
theorem dma2SrchiR : Statement .dma2SrchiR := 
  show busSel false 0x7A94 &&& 0x1FFFFFFFF = 0x000007A94 by decide
theorem dma2SrchiW (v : Word) : Statement (.dma2SrchiW v) := 
  show busSel true 0x7A94 &&& 0x1FFFFFFFF = 0x100007A94 by decide
theorem dma2DsthiR : Statement .dma2DsthiR := 
  show busSel false 0x7A95 &&& 0x1FFFFFFFF = 0x000007A95 by decide
theorem dma2DsthiW (v : Word) : Statement (.dma2DsthiW v) := 
  show busSel true 0x7A95 &&& 0x1FFFFFFFF = 0x100007A95 by decide
theorem dma2LenhiR : Statement .dma2LenhiR := 
  show busSel false 0x7A96 &&& 0x1FFFFFFFF = 0x000007A96 by decide
theorem dma2LenhiW (v : Word) : Statement (.dma2LenhiW v) := 
  show busSel true 0x7A96 &&& 0x1FFFFFFFF = 0x100007A96 by decide
theorem dmasrctypeR : Statement .dmasrctypeR := 
  show busSel false 0x7ABE &&& 0x1FFFFFFFF = 0x000007ABE by decide
theorem dmasrctypeW (v : Word) : Statement (.dmasrctypeW v) := 
  show busSel true 0x7ABE &&& 0x1FFFFFFFF = 0x100007ABE by decide
theorem dmastatusR : Statement .dmastatusR := 
  show busSel false 0x7ABF &&& 0x1FFFFFFFF = 0x000007ABF by decide
theorem dmatrigW (v : Word) : Statement (.dmatrigW v) := 
  show busSel true 0x7ABF &&& 0x1FFFFFFFF = 0x100007ABF by decide
theorem videoR (a : Addr) : Statement (.videoR a) := of_dir _ _
theorem videoW (a : Addr) (v : Word) : Statement (.videoW a v) := of_dir _ _
theorem audioR (a : Addr) : Statement (.audioR a) := of_dir _ _
theorem audioW (a : Addr) (v : Word) : Statement (.audioW a v) := of_dir _ _
theorem sysregUnhR (a : Addr) : Statement (.sysregUnhR a) := of_dir _ _
theorem sysregUnhW (a : Addr) (v : Word) : Statement (.sysregUnhW a v) := of_dir _ _
theorem iramR (a : Addr) : Statement (.iramR a) := of_dir _ _
theorem iramW (a : Addr) (v : Word) : Statement (.iramW a v) := of_dir _ _
theorem iromR (a : Addr) : Statement (.iromR a) := of_dir _ _
theorem iromW (a : Addr) (v : Word) : Statement (.iromW a v) := of_dir _ _
theorem extwinR (a : Addr) : Statement (.extwinR a) := of_dir _ _
theorem extwinW (a : Addr) (v : Word) : Statement (.extwinW a v) := of_dir _ _
theorem bankwinR (a : Addr) : Statement (.bankwinR a) := of_dir _ _
theorem bankwinW (a : Addr) (v : Word) : Statement (.bankwinW a v) := of_dir _ _
theorem unmappedR (a : Addr) : Statement (.unmappedR a) := of_dir _ _
theorem unmappedW (a : Addr) (v : Word) : Statement (.unmappedW a v) := of_dir _ _
theorem dmaNand8 (ch : Channel) : Statement (.dmaNand8 ch) := 
  show BitVec.setWidth 33 (0x1089 : Word) &&& 0xFFFF = 0x1089 by decide
theorem dmaCopy16 (ch : Channel) : Statement (.dmaCopy16 ch) := 
  show BitVec.setWidth 33 (0x0009 : Word) &&& 0xFFFF = 0x0009 by decide
theorem dmaCopy16b (ch : Channel) : Statement (.dmaCopy16b ch) := 
  show BitVec.setWidth 33 (0x4009 : Word) &&& 0xFFFF = 0x4009 by decide
theorem dmaFill16 (ch : Channel) : Statement (.dmaFill16 ch) := 
  show BitVec.setWidth 33 (0x0089 : Word) &&& 0xFFFF = 0x0089 by decide
theorem dmaUnhandled (ch : Channel) (mode : Word) : Statement (.dmaUnhandled ch mode) := BitVec.and_zero
theorem trigCh0 : Statement .trigCh0 := 
  show BitVec.setWidth 33 (0x0001 : Word) &&& 0xFFFF = 0x0001 by decide
theorem trigCh1 : Statement .trigCh1 := 
  show BitVec.setWidth 33 (0x0002 : Word) &&& 0xFFFF = 0x0002 by decide
theorem trigCh2 : Statement .trigCh2 := 
  show BitVec.setWidth 33 (0x0003 : Word) &&& 0xFFFF = 0x0003 by decide
theorem trigInvalid (ordinal : Word) : Statement (.trigInvalid ordinal) := BitVec.and_zero
theorem nandRead : Statement .nandRead := 
  show BitVec.setWidth 33 (0x00 : Byte) &&& 0xFF = 0x00 by decide
theorem nandStatus : Statement .nandStatus := 
  show BitVec.setWidth 33 (0x70 : Byte) &&& 0xFF = 0x70 by decide
theorem nandReadid : Statement .nandReadid := 
  show BitVec.setWidth 33 (0x90 : Byte) &&& 0xFF = 0x90 by decide
theorem nandUnknown (byte : Byte) : Statement (.nandUnknown byte) := BitVec.and_zero
theorem reset : Statement .reset := rfl
theorem bootstrapNand : Statement .bootstrapNand := rfl

end Sys2Proof.Laws.TableRow
end

