-- ==== Sys2Proof/Tests/Slice0.lean ====
section
/-! SUPPORT. The model's own tests. Expected values are those of spec/95_test_vectors.md, named beside each, or
written out from the encoding and address tables of spec/30_encoding.md and spec/45_sysreg_misc.md. Then the
witnesses: for each statement with hypotheses, a state and operands that meet them. -/

namespace Sys2Proof.Tests

open Sys2Proof.Machine

/-! ## A small platform: TC1 of 95_test_vectors with an image of 64 bytes -/

/-- Bytes `n, n + 1, …`, `k` of them. -/
def bytesFrom : Nat → Nat → List Byte
  | 0, _ => []
  | k + 1, n => BitVec.ofNat 8 n :: bytesFrom k (n + 1)

/-- A memory of the given words. -/
def words : List (Nat × Word) → Memory
  | [] => []
  | (a, v) :: rest => (words rest).writeWord a v

/-- TC1: byte `n` of the image is `n`, the identifier is A1 B2 C3 D4; 32 words are copied at boot. -/
def tcCfg : Config :=
  { Config.reference with
    nandImage := .present (bytesFrom 64 0)
    nandIds := ⟨[0xA1, 0xB2, 0xC3, 0xD4], [], []⟩
    initialCopyWords := 0x20 }

/-- The state of the vectors: three read/write stores, a ROM and a general capability. -/
def tc : State :=
  { State.reset with
    cfg := tcCfg
    slots := ⟨.store (words [(0xFFFF, 0x1FFF), (0x10000, 0x1000)]), .store (words [(0, 0x2000)]),
      .rom (words [(0xABCD, 0x3BCD)]), .device [], .store (words [(0xFFFF, 0x5FFF)])⟩ }

/-- `tc` with words in internal RAM. -/
def tcRam (l : List (Nat × Word)) : State := { tc with iram := words l }

/-- `DMA_SETUP` of 30_encoding R118. -/
def setup (s : State) (ch : Channel) (mode : Word) (src dst len : Nat) : State :=
  { s with
    dma := s.dma.setParams ch
      ⟨mode, BitVec.ofNat 16 src, BitVec.ofNat 16 dst, BitVec.ofNat 16 len,
        BitVec.ofNat 16 (src / 65536), BitVec.ofNat 16 (dst / 65536), BitVec.ofNat 16 (len / 65536)⟩ }

/-- What a next state shows. -/
def look {α : Type} (o : Host.Outcome State Fault Refusal) (f : State → α) : Option α :=
  match o with
  | .next s => some (f s)
  | .fault _ => none
  | .refused _ => none

/-- The fault or refusal an outcome stops with. -/
def stop (o : Host.Outcome State Fault Refusal) : Option (Fault ⊕ Refusal) :=
  match o with
  | .next _ => none
  | .fault r => some (.inl r)
  | .refused r => some (.inr r)

/-- Word `a` of internal RAM, whose base is 0 here. -/
def ram (a : Nat) (s : State) : Word := s.iram.readWord a

/-- Word `r` of what backs a region. -/
def slotWord (x : Slot) (r : Nat) : Word :=
  match x with
  | .store m => m.readWord r
  | .rom m => m.readWord r
  | .device _ => 0

/-! ## Well-formedness refuses each ill-formed term -/

/-- The first address after a window or the last before it is not the window's. -/
theorem test_wf_refuses_windows :
    Instr.wf tcCfg (.videoR 0x709A) = false ∧ Instr.wf tcCfg (.videoW 0x6FFF 0) = false ∧
      Instr.wf tcCfg (.audioR 0x7B7F) = false ∧ Instr.wf tcCfg (.audioW 0x8000 0) = false ∧
      Instr.wf tcCfg (.sysregUnhR 0x7810) = false ∧ Instr.wf tcCfg (.sysregUnhW 0x7AC0 0) = true ∧
      Instr.wf tcCfg (.sysregUnhW 0x7ABF 0) = false := by decide

theorem test_wf_refuses_ranges :
    Instr.wf tcCfg (.iramR 0x7000) = false ∧ Instr.wf tcCfg (.iramW 0x6FFF 0) = true ∧
      Instr.wf tcCfg (.iramW 0x7000 0) = false ∧ Instr.wf tcCfg (.iromR 0x7FFF) = false ∧
      Instr.wf tcCfg (.iromW 0x10000 0) = false ∧ Instr.wf tcCfg (.extwinR 0x2FFFF) = false ∧
      Instr.wf tcCfg (.extwinW 0x200000 0) = false ∧ Instr.wf tcCfg (.bankwinR 0x1FFFFF) = false ∧
      Instr.wf tcCfg (.bankwinW 0x300000 0) = false ∧ Instr.wf tcCfg (.unmappedR 0x30000) = false ∧
      Instr.wf tcCfg (.unmappedW 0x300000 0) = true ∧ Instr.wf tcCfg (.unmappedW 0x7000 0) = false := by
  decide

/-- The catch-all rows do not stand for a listed word. -/
theorem test_wf_refuses_listed_words :
    Instr.wf tcCfg (.dmaUnhandled .ch0 0x0089) = false ∧ Instr.wf tcCfg (.trigInvalid 3) = false ∧
      Instr.wf tcCfg (.nandUnknown 0x70) = false ∧ Instr.wf tcCfg (.nandUnknown 0x71) = true := by decide

/-- The constraints on a configuration, as a test. -/
def valid (c : Config) : Bool := decide c.Valid

/-- Each constraint of 00_scope section 4, broken alone. -/
theorem test_valid_refuses :
    valid Config.reference = true ∧ valid tcCfg = true ∧
      valid { tcCfg with iramSize := 0x7001 } = false ∧ valid { tcCfg with extWinEnd := 0x2FFFF } = false ∧
      valid { tcCfg with bankWinSize := 0 } = false ∧ valid { tcCfg with dmaStatus := 0x0003 } = false ∧
      valid { tcCfg with iromImage := [(1, 1), (0, 1)] } = false ∧
      valid { tcCfg with iromImage := [(0x10000, 1)] } = false := by decide

/-! ## Decoding: selector words `dir @ addr` written out from 30_encoding R100 and R101 -/

/-- `BANKSW` at `0x7810`: B = 0 @ 0111 1000 0001 0000 and 1 @ the same. -/
theorem test_decode_banksw :
    decode tcCfg (.bus 0b000000000000000000111100000010000 0) = .bankswR ∧
      decode tcCfg (.bus 0b100000000000000000111100000010000 0x0003) = .bankswW 0x0003 := by decide

/-- `CS[i]` at `0x7820 + i`. -/
theorem test_decode_chip_selects :
    decode tcCfg (.bus 0x000007820 0) = .cs0R ∧
      decode tcCfg (.bus 0x100007820 0x0147) = .cs0W 0x0147 ∧
      decode tcCfg (.bus 0x000007821 0) = .cs1R ∧
      decode tcCfg (.bus 0x100007821 0x0147) = .cs1W 0x0147 ∧
      decode tcCfg (.bus 0x000007822 0) = .cs2R ∧
      decode tcCfg (.bus 0x100007822 0x0147) = .cs2W 0x0147 ∧
      decode tcCfg (.bus 0x000007823 0) = .cs3R ∧
      decode tcCfg (.bus 0x100007823 0x0147) = .cs3W 0x0147 ∧
      decode tcCfg (.bus 0x000007824 0) = .cs4R ∧
      decode tcCfg (.bus 0x100007824 0x0147) = .cs4W 0x0147 := by decide

/-- `0x7851` to `0x7854`; `0x7854` is 0111 1000 0101 0100. -/
theorem test_decode_nand :
    decode tcCfg (.bus 0x000007851 0) = .nandcmdR ∧
      decode tcCfg (.bus 0x100007851 0x1290) = .nandcmdW 0x1290 ∧
      decode tcCfg (.bus 0x000007852 0) = .nandadrlR ∧
      decode tcCfg (.bus 0x100007852 0x0108) = .nandadrlW 0x0108 ∧
      decode tcCfg (.bus 0x000007853 0) = .nandadrhR ∧
      decode tcCfg (.bus 0x100007853 0x0001) = .nandadrhW 0x0001 ∧
      decode tcCfg (.bus 0b000000000000000000111100001010100 0) = .nanddataR ∧
      decode tcCfg (.bus 0x100007854 0x0055) = .nanddataW 0x0055 := by decide

/-- The seven registers of channel 0 from `0x7A80` (30_encoding R104). -/
theorem test_decode_dma0 :
    decode tcCfg (.bus 0x000007A80 0) = .dma0ModeR ∧
      decode tcCfg (.bus 0x100007A80 0xF00D) = .dma0ModeW 0xF00D ∧
      decode tcCfg (.bus 0x000007A81 0) = .dma0SrcloR ∧
      decode tcCfg (.bus 0x100007A81 0xF00D) = .dma0SrcloW 0xF00D ∧
      decode tcCfg (.bus 0x000007A82 0) = .dma0DstloR ∧
      decode tcCfg (.bus 0x100007A82 0xF00D) = .dma0DstloW 0xF00D ∧
      decode tcCfg (.bus 0x000007A83 0) = .dma0LenloR ∧
      decode tcCfg (.bus 0x100007A83 0xF00D) = .dma0LenloW 0xF00D ∧
      decode tcCfg (.bus 0x000007A84 0) = .dma0SrchiR ∧
      decode tcCfg (.bus 0x100007A84 0xF00D) = .dma0SrchiW 0xF00D ∧
      decode tcCfg (.bus 0x000007A85 0) = .dma0DsthiR ∧
      decode tcCfg (.bus 0x100007A85 0xF00D) = .dma0DsthiW 0xF00D ∧
      decode tcCfg (.bus 0x000007A86 0) = .dma0LenhiR ∧
      decode tcCfg (.bus 0x100007A86 0xF00D) = .dma0LenhiW 0xF00D := by decide

/-- The seven registers of channel 1 from `0x7A88` (30_encoding R104). -/
theorem test_decode_dma1 :
    decode tcCfg (.bus 0x000007A88 0) = .dma1ModeR ∧
      decode tcCfg (.bus 0x100007A88 0xF00D) = .dma1ModeW 0xF00D ∧
      decode tcCfg (.bus 0x000007A89 0) = .dma1SrcloR ∧
      decode tcCfg (.bus 0x100007A89 0xF00D) = .dma1SrcloW 0xF00D ∧
      decode tcCfg (.bus 0x000007A8A 0) = .dma1DstloR ∧
      decode tcCfg (.bus 0x100007A8A 0xF00D) = .dma1DstloW 0xF00D ∧
      decode tcCfg (.bus 0x000007A8B 0) = .dma1LenloR ∧
      decode tcCfg (.bus 0x100007A8B 0xF00D) = .dma1LenloW 0xF00D ∧
      decode tcCfg (.bus 0x000007A8C 0) = .dma1SrchiR ∧
      decode tcCfg (.bus 0x100007A8C 0xF00D) = .dma1SrchiW 0xF00D ∧
      decode tcCfg (.bus 0x000007A8D 0) = .dma1DsthiR ∧
      decode tcCfg (.bus 0x100007A8D 0xF00D) = .dma1DsthiW 0xF00D ∧
      decode tcCfg (.bus 0x000007A8E 0) = .dma1LenhiR ∧
      decode tcCfg (.bus 0x100007A8E 0xF00D) = .dma1LenhiW 0xF00D := by decide

/-- The seven registers of channel 2 from `0x7A90` (30_encoding R104). -/
theorem test_decode_dma2 :
    decode tcCfg (.bus 0x000007A90 0) = .dma2ModeR ∧
      decode tcCfg (.bus 0x100007A90 0xF00D) = .dma2ModeW 0xF00D ∧
      decode tcCfg (.bus 0x000007A91 0) = .dma2SrcloR ∧
      decode tcCfg (.bus 0x100007A91 0xF00D) = .dma2SrcloW 0xF00D ∧
      decode tcCfg (.bus 0x000007A92 0) = .dma2DstloR ∧
      decode tcCfg (.bus 0x100007A92 0xF00D) = .dma2DstloW 0xF00D ∧
      decode tcCfg (.bus 0x000007A93 0) = .dma2LenloR ∧
      decode tcCfg (.bus 0x100007A93 0xF00D) = .dma2LenloW 0xF00D ∧
      decode tcCfg (.bus 0x000007A94 0) = .dma2SrchiR ∧
      decode tcCfg (.bus 0x100007A94 0xF00D) = .dma2SrchiW 0xF00D ∧
      decode tcCfg (.bus 0x000007A95 0) = .dma2DsthiR ∧
      decode tcCfg (.bus 0x100007A95 0xF00D) = .dma2DsthiW 0xF00D ∧
      decode tcCfg (.bus 0x000007A96 0) = .dma2LenhiR ∧
      decode tcCfg (.bus 0x100007A96 0xF00D) = .dma2LenhiW 0xF00D := by decide

/-- `DMA_SRCTYPE` at `0x7ABE`, status and trigger at `0x7ABF`, 0111 1010 1011 1111. -/
theorem test_decode_dma_shared :
    decode tcCfg (.bus 0x000007ABE 0) = .dmasrctypeR ∧
      decode tcCfg (.bus 0x100007ABE 0x0210) = .dmasrctypeW 0x0210 ∧
      decode tcCfg (.bus 0x000007ABF 0) = .dmastatusR ∧
      decode tcCfg (.bus 0b100000000000000000111101010111111 0x0002) = .dmatrigW 0x0002 := by decide

/-- The delegated windows and the unhandled addresses at their ends (45_sysreg_misc R225 to R229). -/
theorem test_decode_delegated_and_unhandled :
    decode tcCfg (.bus 0x000007000 0) = .videoR 0x7000 ∧
      decode tcCfg (.bus 0x100007099 5) = .videoW 0x7099 5 ∧
      decode tcCfg (.bus 0x000007FFF 0) = .audioR 0x7FFF ∧
      decode tcCfg (.bus 0x100007B80 1) = .audioW 0x7B80 1 ∧
      decode tcCfg (.bus 0x00000709A 0) = .sysregUnhR 0x709A ∧
      decode tcCfg (.bus 0x100007A87 9) = .sysregUnhW 0x7A87 9 ∧
      decode tcCfg (.bus 0x000007A98 0) = .sysregUnhR 0x7A98 ∧
      decode tcCfg (.bus 0x000007B7F 0) = .sysregUnhR 0x7B7F := by decide

/-- The ranges of TC1 at their ends (20_memory R62). -/
theorem test_decode_ranges :
    decode tcCfg (.bus 0x000000000 0) = .iramR 0 ∧
      decode tcCfg (.bus 0x100006FFF 0xABCD) = .iramW 0x6FFF 0xABCD ∧
      decode tcCfg (.bus 0x000008000 0) = .iromR 0x8000 ∧
      decode tcCfg (.bus 0x10000FFFF 1) = .iromW 0xFFFF 1 ∧
      decode tcCfg (.bus 0x000030000 0) = .extwinR 0x30000 ∧
      decode tcCfg (.bus 0x1001FFFFF 7) = .extwinW 0x1FFFFF 7 ∧
      decode tcCfg (.bus 0x000200000 0) = .bankwinR 0x200000 ∧
      decode tcCfg (.bus 0x1002FFFFF 7) = .bankwinW 0x2FFFFF 7 ∧
      decode tcCfg (.bus 0x000010000 0) = .unmappedR 0x10000 ∧
      decode tcCfg (.bus 0x00002FFFF 0) = .unmappedR 0x2FFFF ∧
      decode tcCfg (.bus 0x1FFFFFFFF 7) = .unmappedW 0xFFFFFFFF 7 := by decide

/-- The four mode words and some others (30_encoding R105; vector DMA7). -/
theorem test_decode_mode_words :
    decode tcCfg (.dmaMode .ch0 0b0001000010001001) = .dmaNand8 .ch0 ∧
      decode tcCfg (.dmaMode .ch1 0b0000000000001001) = .dmaCopy16 .ch1 ∧
      decode tcCfg (.dmaMode .ch2 0b0100000000001001) = .dmaCopy16b .ch2 ∧
      decode tcCfg (.dmaMode .ch0 0b0000000010001001) = .dmaFill16 .ch0 ∧
      decode tcCfg (.dmaMode .ch0 0x8009) = .dmaUnhandled .ch0 0x8009 ∧
      decode tcCfg (.dmaMode .ch0 0xC009) = .dmaUnhandled .ch0 0xC009 ∧
      decode tcCfg (.dmaMode .ch1 0x0000) = .dmaUnhandled .ch1 0x0000 := by decide

/-- The ordinals (30_encoding R107; vector DMA8). -/
theorem test_decode_ordinals :
    decode tcCfg (.trig 0b0000000000000001) = .trigCh0 ∧
      decode tcCfg (.trig 0x0002) = .trigCh1 ∧
      decode tcCfg (.trig 0x0003) = .trigCh2 ∧
      decode tcCfg (.trig 0x0000) = .trigInvalid 0 ∧
      decode tcCfg (.trig 0x0004) = .trigInvalid 4 ∧
      decode tcCfg (.trig 0x0101) = .trigInvalid 0x0101 := by decide

/-- The command bytes (30_encoding R110). -/
theorem test_decode_nand_commands :
    decode tcCfg (.nandCmd 0b00000000) = .nandRead ∧
      decode tcCfg (.nandCmd 0b01110000) = .nandStatus ∧
      decode tcCfg (.nandCmd 0b10010000) = .nandReadid ∧
      decode tcCfg (.nandCmd 0xFF) = .nandUnknown 0xFF := by decide

/-- The two events have no selector word. -/
theorem test_decode_events :
    decode tcCfg .reset = .reset ∧
      decode tcCfg .bootstrap = .bootstrapNand := by decide

/-- What a decoding from bytes gives: the operation, or the reason there is none. -/
def readBytes (f : Format) (bs : List Byte) : Instr ⊕ Reject :=
  match decodeBytes tcCfg f bs with
  | .ok i => .inl i
  | .error r => .inr r

/-- The byte layout of log 17, and what it rejects. -/
theorem test_decode_bytes :
    readBytes .bus [0x20, 0x78, 0x00, 0x00, 0x01, 0x47, 0x01] = .inl (.cs0W 0x0147) ∧
      readBytes .bus [0x54, 0x78, 0x00, 0x00, 0x00, 0x00, 0x00] = .inl .nanddataR ∧
      readBytes (.dmaMode .ch1) [0x89, 0x10] = .inl (.dmaNand8 .ch1) ∧
      readBytes .trig [0x03, 0x00] = .inl .trigCh2 ∧ readBytes .nandCmd [0x70] = .inl .nandStatus ∧
      readBytes .bus [0x20, 0x78, 0x00, 0x00, 0x02, 0x47, 0x01] = .inr .selectorBits ∧
      readBytes .bus [0x20, 0x78, 0x00, 0x00, 0x01, 0x47] = .inr .length ∧
      readBytes .reset [0x00] = .inr .length := by decide

/-- Row words of spec/opcode_table.json. -/
theorem test_decode_table_words :
    decodeTableWord 40 0x100007820 = some (.cs0W 0) ∧ decodeTableWord 33 0x7854 = some .nanddataR ∧
      decodeTableWord 16 0x4009 = some (.dmaCopy16b .ch0) ∧ decodeTableWord 16 0x0002 = some .trigCh1 ∧
      decodeTableWord 8 0x90 = some .nandReadid ∧ decodeTableWord 0 0 = some .reset := by decide

/-- A placed word is what the next step runs. -/
theorem test_step_runs_placed_words :
    look (step (State.reset.withFetchWord 40 0x000007ABF)) (fun s => s.readData) = some 0x00FF ∧
      look (step (State.reset.withFetchWord 40 (0x100007810 + 0x43 * 2 ^ 40))) (fun s => s.banksw) = some 0 ∧
      look (step (State.reset.withFetchWord 56 (0x100007810 + 0x43 * 2 ^ 40))) (fun s => s.banksw)
        = some 0x43 ∧
      look (step (State.reset.withFetchWord 16 0x0004)) (fun s => s.fault)
        = some (some (.dmaBadTrigger 4)) ∧
      look (step (State.reset.withFetchWord 8 0x70)) (fun s => s.readData) = some 0x00FF := by decide

theorem test_step_idles_without_stimulus : look (step State.reset) (fun s => s) = some State.reset := by
  decide

/-! ## Chip selects (vectors CS1 to CS8) -/

/-- CS1. -/
theorem test_cs1_reset_layout :
    csStart State.reset.cs .cs4 = 0x40000 ∧ csSize State.reset.cs .cs0 = 0x10000 ∧
      csTotal State.reset.cs = 0x50000 := by decide

/-- CS2, CS3. -/
theorem test_cs3_resize :
    look (exec (.cs0W 0x0147) tc) (fun s => (csStart s.cs .cs1, csStart s.cs .cs4, csTotal s.cs))
        = some (0x20000, 0x50000, 0x60000) ∧
      look (exec (.extwinR 0x40000) { tc with cs := ⟨0x0147, 0, 0, 0, 0⟩ }) (fun s => s.readData)
        = some 0x1000 ∧
      look (exec (.extwinR 0x50000) { tc with cs := ⟨0x0147, 0, 0, 0, 0⟩ }) (fun s => s.readData)
        = some 0x2000 ∧
      look (exec (.extwinR 0x3FFFF) { tc with cs := ⟨0x0047, 0, 0, 0, 0⟩ }) (fun s => s.readData)
        = some 0x1FFF := by decide

/-- CS5. -/
theorem test_cs5_lookup :
    csLookup ⟨0x0300, 0x0047, 0x1F80, 0x00FF, 0x0700⟩ 0x3FFFF = some (.cs0, 0x3FFFF) ∧
      csLookup ⟨0x0300, 0x0047, 0x1F80, 0x00FF, 0x0700⟩ 0x4FFFF = some (.cs1, 0xFFFF) ∧
      csLookup ⟨0x0300, 0x0047, 0x1F80, 0x00FF, 0x0700⟩ 0x1CFFFF = some (.cs2, 0x17FFFF) ∧
      csLookup ⟨0x0300, 0x0047, 0x1F80, 0x00FF, 0x0700⟩ 0x2DFFFF = some (.cs4, 0x7FFFF) ∧
      csLookup ⟨0x0300, 0x0047, 0x1F80, 0x00FF, 0x0700⟩ 0x2E0000 = none := by decide

/-- CS6. -/
theorem test_cs6_past_the_layout :
    look (exec (.extwinR 0x7FFFF) tc) (fun s => s.readData) = some 0x5FFF ∧
      look (exec (.extwinR 0x80000) tc) (fun s => (s.readData, s.log))
        = some (0, [.csUnmapped 0x50000 none]) := by decide

/-- CS7: all sixteen bits are stored, the low eight have no effect. -/
theorem test_cs7_low_bits :
    look (exec (.cs2W 0xFF47) tc) (fun s => (s.cs.cs2, csTotal s.cs)) = some (0xFF47, 0x1040000) ∧
      csTotal ⟨0, 0, 0xFF00, 0, 0⟩ = 0x1040000 := by decide

/-- CS8, on a store; a ROM ignores the write; a capability receives it. -/
theorem test_cs8_writes :
    look (exec (.extwinW 0x41234 0x1234) tc)
        (fun s => (slotWord s.slots.cs1 0x1234, slotWord s.slots.cs1 0)) = some (0x1234, 0x2000) ∧
      look (exec (.extwinW 0x5ABCD 0x1234) tc) (fun s => slotWord s.slots.cs2 0xABCD) = some 0x3BCD ∧
      look (exec (.extwinW 0x60005 0x1234) tc) (fun s => s.slots.cs3)
        = some (.device [.write 5 0x1234]) := by decide

/-! ## The banked window (vectors BK1 to BK8) -/

/-- BK1: `t = -1` and `t = 0`. -/
theorem test_bk1_negative :
    look (exec (.bankwinR 0x22FFFF) tc) (fun s => (s.readData, s.log))
        = some (0, [.bankNegative 0x2FFFF 0 (-1) none]) ∧
      look (exec (.bankwinW 0x22FFFF 7) tc) (fun s => s.log)
        = some [.bankNegative 0x2FFFF 0 (-1) (some 7)] ∧
      look (exec (.bankwinR 0x23FFFF) tc) (fun s => s.readData) = some 0x1FFF := by decide

/-- BK2. -/
theorem test_bk2_beyond :
    look (exec (.bankwinR 0x200000) { tc with banksw := 1 }) (fun s => (s.readData, s.log))
      = some (0, [.csUnmapped 0x1D0000 none]) := by decide

/-- BK4, BK8. -/
theorem test_bk4_bank_switch :
    look (exec (.bankswW 0xFFC3) tc) (fun s => (s.banksw, bankTranslate s.cfg s.banksw 0))
        = some (0xFFC3, 0x5D0000) ∧
      look (exec .bankswR { tc with banksw := 0xFFC0 }) (fun s => s.readData) = some 0xFFC0 := by decide

/-- BK6: a write through the banked window is read through the direct one. -/
theorem test_bk6_alias :
    look (execAll [.bankwinW 0x240000 0xBEEF, .extwinR 0x40000] tc) (fun s => s.readData)
      = some 0xBEEF := by decide

/-! ## DMA (vectors DMA1 to DMA24) -/

/-- DMA1 on two words: the words, the channel cleared. -/
theorem test_dma1_copy :
    look (exec .trigCh0 (setup (tcRam [(0x3000, 0xA), (0x3001, 0xB)]) .ch0 0x0009 0x3000 0x4000 2))
        (fun s => (ram 0x4000 s, ram 0x4001 s, ram 0x4002 s, s.dma))
      = some (0xA, 0xB, 0, State.reset.dma) := by decide

/-- DMA2: mode `0x4009` on channel 1 does the same. -/
theorem test_dma2_copy16b :
    look (exec (.dmatrigW 2) (setup (tcRam [(0x3000, 0xA), (0x3001, 0xB)]) .ch1 0x4009 0x3000 0x4100 2))
        (fun s => (ram 0x4100 s, ram 0x4101 s, s.dma.ch1)) = some (0xA, 0xB, DmaParams.zero) := by decide

/-- DMA3. -/
theorem test_dma3_fill :
    look (exec .trigCh2 (setup (tcRam [(0x3000, 0x5A5A)]) .ch2 0x0089 0x3000 0x4200 2))
        (fun s => (ram 0x4200 s, ram 0x4201 s, ram 0x4202 s)) = some (0x5A5A, 0x5A5A, 0) := by decide

/-- DMA4, DMA5: overlapping copies upward and downward. -/
theorem test_dma4_overlap :
    look (exec (.dmaCopy16 .ch0)
          (setup (tcRam [(0x3000, 1), (0x3001, 2), (0x3002, 3)]) .ch0 0x0009 0x3000 0x3001 2))
        (fun s => (ram 0x3000 s, ram 0x3001 s, ram 0x3002 s)) = some (1, 1, 1) ∧
      look (exec (.dmaCopy16b .ch0)
          (setup (tcRam [(0x3000, 1), (0x3001, 2), (0x3002, 3)]) .ch0 0x4009 0x3001 0x3000 2))
        (fun s => (ram 0x3000 s, ram 0x3001 s, ram 0x3002 s)) = some (2, 3, 3) := by decide

/-- DMA6: no words. -/
theorem test_dma6_empty :
    look (exec (.dmaFill16 .ch0) (setup (tcRam [(0x4000, 0x7777)]) .ch0 0x0089 0x3000 0x4000 0))
        (fun s => (ram 0x4000 s, s.log, s.dma.ch0)) = some (0x7777, [], DmaParams.zero) := by decide

/-- DMA7. -/
theorem test_dma7_unhandled :
    look (exec .trigCh0 (setup tc .ch0 0x8009 0x3000 0x4000 4)) (fun s => (s.iram, s.log, s.dma.ch0))
      = some ([], [.dmaUnhandledMode .ch0 0x8009 0x3000 0x4000 4], DmaParams.zero) := by decide

/-- DMA8: the fault is recorded, the parameters stay, later accesses are refused. -/
theorem test_dma8_bad_trigger :
    look (exec (.dmatrigW 4) (setup tc .ch0 0x0009 0x3000 0x4000 4))
        (fun s => (s.fault, s.dma.ch0.mode, stop (exec .bankswR s)))
        = some (some (.dmaBadTrigger 4), 0x0009, some (.inl (.dmaBadTrigger 4))) ∧
      look (exec (.trigInvalid 0x0101) tc) (fun s => s.fault) = some (some (.dmaBadTrigger 0x0101)) := by
  decide

/-- DMA9: bits 15:12 of the high registers are stored and neglected. -/
theorem test_dma9_mask :
    (latch ⟨⟨9, 0x3000, 0x4000, 1, 0xF000, 0xF000, 0xF000⟩, .zero, .zero⟩ .ch0)
      = ⟨9, 0x3000, 0x4000, 1⟩ := by decide

/-- DMA11: two bytes a word, the first low; an odd length rounds down. -/
theorem test_dma11_nand8 :
    look (exec (.dmaNand8 .ch0)
          (setup { tc with nandAddrLo := 8 } .ch0 0x1089 0x7854 0x4000 5))
        (fun s => (ram 0x4000 s, ram 0x4001 s, ram 0x4002 s, s.nandPos))
      = some (0x1110, 0x1312, 0, 4) := by decide

/-- DMA13, identifier. -/
theorem test_dma13_identifier :
    look (exec (.dmaNand8 .ch0) (setup { tc with nandCmd := 0x90 } .ch0 0x1089 0 0x4000 4))
        (fun s => (ram 0x4000 s, ram 0x4001 s, s.nandPos)) = some (0xB2A1, 0xD4C3, 4) := by decide

/-- DMA14, DMA15: the data port as a source. -/
theorem test_dma14_data_port :
    look (exec (.dmaFill16 .ch0) (setup { tc with nandAddrLo := 8 } .ch0 0x0089 0x7854 0x4000 2))
        (fun s => (ram 0x4000 s, ram 0x4001 s, s.nandPos)) = some (0x0010, 0x0011, 2) ∧
      look (exec (.dmaCopy16 .ch0) (setup { tc with nandAddrLo := 8 } .ch0 0x0009 0x7854 0x4000 2))
        (fun s => (ram 0x4000 s, ram 0x4001 s, s.nandPos, s.log))
        = some (0x0010, 0, 1, [.unhandledRegRead 0x7855]) := by decide

/-- DMA17, DMA24: dropped in ROM; no wrap at 28 bits. -/
theorem test_dma24_no_wrap :
    look (exec (.dmaCopy16 .ch0) (setup tc .ch0 0x0009 0x0FFFFFFF 0x4000 2)) (fun s => s.log)
        = some [.unmapped 0x0FFFFFFF none, .unmapped 0x10000000 none] ∧
      look (exec (.dmaCopy16 .ch0) (setup (tcRam [(0x3000, 0xAAAA)]) .ch0 0x0009 0x3000 0xFFF7 1))
        (fun s => (s.irom.readWord 0x7FF7, s.log)) = some (0x0020, [.romWrite 0xFFF7 0xAAAA]) := by decide

/-- DMA18, DMA22: the block's own registers as destination and source. -/
theorem test_dma18_registers :
    look (exec (.dmaCopy16 .ch0)
          (setup (tcRam [(0x3000, 0x0147), (0x3001, 0x0247)]) .ch0 0x0009 0x3000 0x7820 2))
        (fun s => (s.cs.cs0, s.cs.cs1, csTotal s.cs)) = some (0x0147, 0x0247, 0x80000) ∧
      look (exec (.dmaFill16 .ch0) (setup tc .ch0 0x0089 0x7ABF 0x4000 1)) (ram 0x4000) = some 0x00FF := by
  decide

/-- DMA19: the engine's own trigger write. -/
theorem test_dma19_nested :
    look (exec .trigCh0 (setup (tcRam [(0x3000, 2), (0x3001, 0x5555)]) .ch0 0x0009 0x3000 0x7ABF 2))
        (fun s => (s.fault, s.dma.ch0.mode, s.phase))
      = some (some (.dmaNestedTrigger 2), 0x0009, .idle) := by decide

/-- DMA20, DMA25: plain registers. -/
theorem test_dma20_registers :
    look (execAll [.dmasrctypeW 0x0210, .dma1LenhiW 0xF123, .dmasrctypeR] tc)
        (fun s => (s.readData, s.dma.ch1.lenHi, s.phase)) = some (0x0210, 0xF123, .idle) ∧
      look (exec .dma1LenhiR (setup tc .ch1 0 0 0 0xABC0000)) (fun s => s.readData) = some 0x0ABC ∧
      look (exec .dmastatusR tc) (fun s => s.readData) = some 0x00FF := by decide

/-! ## The NAND sequencer (vectors ND1 to ND11) -/

/-- ND1, ND4. -/
theorem test_nd1_stream :
    look (execAll [.nandcmdW 0, .nandadrlW 8, .nandadrhW 0, .nanddataR, .nanddataR, .nandcmdW 0,
        .nanddataR] tc) (fun s => (s.readData, s.nandPos)) = some (0x0012, 3) := by decide

/-- ND2, ND3: either half rewinds. -/
theorem test_nd2_rewind :
    look (exec (.nandadrlW 8) { tc with nandPos := 5 }) (fun s => (s.nandAddrLo, s.nandPos)) = some (8, 0) ∧
      look (exec (.nandadrhW 1) { tc with nandPos := 5 }) (fun s => (s.nandAddrHi, s.nandPos))
        = some (1, 0) := by decide

/-- ND5, ND6, ND7. -/
theorem test_nd5_commands :
    look (execAll [.nandReadid, .nandReadid] tc) (fun s => (s.readData, s.nandPos)) = some (0x00B2, 2) ∧
      look (exec .nandStatus { tc with nandPos := 2 }) (fun s => (s.readData, s.nandPos))
        = some (0x00FF, 3) ∧
      look (exec .nanddataR { tc with nandCmd := 0xFF }) (fun s => (s.readData, s.nandPos, s.log))
        = some (0x00FF, 1, [.nandUnknownCommand 0xFF]) ∧
      look (exec .nandRead { tc with nandAddrLo := 8, nandPos := 3 }) (fun s => s.readData)
        = some 0x0013 := by decide

/-- ND8, ND9. -/
theorem test_nd8_wrong_direction :
    look (execAll [.nandcmdR, .nandadrlR, .nandadrhR, .nanddataW 0x0055] tc) (fun s => s.log)
        = some [.unhandledRegRead 0x7851, .unhandledRegRead 0x7852, .unhandledRegRead 0x7853,
          .unhandledRegWrite 0x7854 0x0055] ∧
      look (exec (.nandcmdW 0x1290) tc) (fun s => s.nandCmd) = some 0x90 := by decide

/-- The position wraps modulo `2^32` (10_state R27); ND10: the offset is exact. -/
theorem test_nd10_exact_offset :
    look (exec .nandStatus { tc with nandPos := 0xFFFFFFFF }) (fun s => s.nandPos) = some 0 ∧
      nandOffset 0xFFFF 0xFFFF 1 = 0x1FFFFFFFF := by decide

/-! ## The rest of the map (vectors M1 to M6) -/

/-- M1, M2. -/
theorem test_m1_unmapped :
    look (exec (.unmappedR 0x10000) tc) (fun s => (s.readData, s.log))
        = some (0, [.unmapped 0x10000 none]) ∧
      look (exec (.unmappedW 0x300000 7) tc) (fun s => s.log) = some [.unmapped 0x300000 (some 7)] ∧
      look (execAll [.iromW 0xFFF7 0x1234, .iromR 0xFFF7] tc) (fun s => (s.readData, s.log))
        = some (0x0020, [.romWrite 0xFFF7 0x1234]) := by decide

/-- M3, M4. -/
theorem test_m4_unhandled :
    look (execAll [.sysregUnhW 0x7800 0x1234, .sysregUnhR 0x7800] tc) (fun s => (s.readData, s.log))
      = some (0, [.unhandledRegWrite 0x7800 0x1234, .unhandledRegRead 0x7800]) := by decide

/-- M5: the block only forwards. -/
theorem test_m5_delegation :
    look (execAll [.videoR 0x7000, .videoW 0x7099 3, .audioR 0x7FFF, .audioW 0x7B80 1] tc)
        (fun s => (s.video, s.audio, s.log))
      = some ([.read 0x7000, .write 0x7099 3], [.read 0x7FFF, .write 0x7B80 1], []) := by decide

/-- M6. -/
theorem test_m6_ram :
    look (execAll [.iramW 0x6FFF 0xABCD, .iramR 0x6FFF] tc) (fun s => (s.readData, s.iram))
      = some (0xABCD, words [(0x6FFF, 0xABCD)]) := by decide

/-! ## Reset and bootstrap (vectors B1 to B8) -/

/-- B1, B8: the boot block, the vectors, the cleared fault. -/
theorem test_b1_reset :
    look (exec .reset { tc with fault := some (.dmaBadTrigger 4), banksw := 3 })
        (fun s => (ram 0x1500 s, ram 0x150A s, ram 0x151F s, ram 0x1520 s))
        = some (0x0100, 0x1514, 0x3F3E, 0) ∧
      look (exec .reset { tc with fault := some (.dmaBadTrigger 4), banksw := 3 })
        (fun s => (s.entryPc, s.fault, s.banksw)) = some (0x1520, none, 0) := by decide

/-- B1: the vector words. -/
theorem test_b1_vectors :
    look (exec .bootstrapNand tc)
        (fun s => (s.irom.readWord 0x7FF4, s.irom.readWord 0x7FF5, s.irom.readWord 0x7FF7))
        = some (0, 0x6FEA, 0x1520) ∧
      look (exec .bootstrapNand tc) (fun s => (s.irom.readWord 0x7FF8, s.irom.readWord 0x7FFF))
        = some (0x6FF0, 0x6FFE) := by decide

/-- B6: vector values are reduced to 16 bits. -/
theorem test_b6_vectors_wrap :
    look (exec .bootstrapNand { tc with cfg := { tcCfg with vectorBase := 0xFFF0 } })
        (fun s => (s.irom.readWord 0x7FF5, s.irom.readWord 0x7FF8, s.irom.readWord 0x7FFF))
      = some (0xFFFA, 0x0000, 0x000E) := by decide

/-- B4 and R219: a block that leaves internal RAM is refused. -/
theorem test_b4_refused :
    stop (exec .reset { tc with cfg := { tcCfg with iramSize := 0x151F } })
      = some (.inr .bootBlockOutsideRam) := by decide

/-- B7: the other boot sources copy and patch nothing. -/
theorem test_b7_mirror :
    look (exec .reset { tc with cfg := { tcCfg with bootSource := .internalMirror } })
        (fun s => (ram 0x1500 s, s.irom, s.entryPc)) = some (0, [], 0) := by decide

/-- R11: a configuration with overlapping ranges is refused. -/
theorem test_step_refuses_bad_configuration :
    stop (step { tc with cfg := { tcCfg with iramSize := 0x7001 } }) = some (.inr .badConfiguration) := by
  decide
/-! ## Witnesses: what meets the hypotheses of each statement of Certificates/Slice0/Obligations.lean -/

/-- The clauses on regions at and behind the written one, and a write that leaves the size code. -/
theorem test_witness_ChipSelectWriteStoresWord :
    tc.fault = none ∧ regionNumber .cs2 ≤ regionNumber .cs2 ∧ regionNumber .cs0 < regionNumber .cs4 ∧
      CsIndex.cs4 ≠ .cs0 ∧ (0x00FF : Word).toNat / 256 = (tc.cs.get .cs0).toNat / 256 :=
  ⟨rfl, by decide, by decide, by decide, by decide⟩

/-- Not faulted. -/
theorem test_witness_ChipSelectReadReturnsRegister :
    tc.fault = none :=
  rfl

/-- Not faulted. -/
theorem test_witness_BankSwitchStoresAndReturns :
    tc.fault = none :=
  rfl

/-- The first CS offset past the last region, and the last negative offset of bank 0. -/
theorem test_witness_UnmappedReadsZeroAndDropsWrites :
    tc.fault = none ∧ (0x80000 : Addr).toNat = tc.cfg.csBase + 0x50000 ∧ csTotal tc.cs ≤ 0x50000 ∧
      (0x22FFFF : Addr).toNat = tc.cfg.bankWinBase.toNat + 0x2FFFF ∧
      bankTranslate tc.cfg tc.banksw 0x2FFFF < 0 :=
  ⟨rfl, by decide, by decide, by decide, by decide⟩

/-- Not faulted. -/
theorem test_witness_CoprocessorWindowsAreDelegated :
    tc.fault = none :=
  rfl

/-- Not faulted. -/
theorem test_witness_UnhandledRegistersReadZero :
    tc.fault = none :=
  rfl

/-- Not faulted. -/
theorem test_witness_WrongDirectionNandAccesses :
    tc.fault = none :=
  rfl

/-- Not faulted. -/
theorem test_witness_NandCommandWriteKeepsPosition :
    tc.fault = none :=
  rfl

/-- Not faulted. -/
theorem test_witness_NandAddressWriteRewinds :
    tc.fault = none :=
  rfl

/-- Not faulted. -/
theorem test_witness_NandDataRowsDeliverTheirByte :
    tc.fault = none :=
  rfl

/-- The status command, and the first byte beside it. -/
theorem test_witness_StatusAndUnknownReadsAreAllOnes :
    tc.fault = none ∧ (tc.setNandCmd 0x70).nandCmd = 0x70 ∧ (tc.setNandCmd 0x71).nandCmd ≠ 0x00 ∧
      (tc.setNandCmd 0x71).nandCmd ≠ 0x70 ∧ (tc.setNandCmd 0x71).nandCmd ≠ 0x90 :=
  ⟨rfl, rfl, by decide, by decide, by decide⟩

/-- Not faulted. -/
theorem test_witness_DataPortFollowsTheLatchedCommand :
    tc.fault = none :=
  rfl

/-- Not faulted. -/
theorem test_witness_DmaParametersStoreAndReturn :
    tc.fault = none :=
  rfl

/-- Not faulted. -/
theorem test_witness_SourceTypeIsPlainStorage :
    tc.fault = none :=
  rfl

/-- Neighbouring regions. -/
theorem test_witness_LayoutFollowsFromRegisters :
    regionNumber .cs4 = regionNumber .cs3 + 1 ∧ csStart tc.cs .cs1 ≤ 0x1FFFF ∧ 0x1FFFF < csEnd tc.cs .cs1 :=
  ⟨rfl, by decide, by decide⟩

/-- Registers that differ in bits 7:0. -/
theorem test_witness_LookupIgnoresLowControlBits :
    ∀ i, ((⟨0x0147, 0, 0, 0, 0xFFFF⟩ : PerRegion Word).get i).toNat / 256 =
      ((⟨0x0100, 0x00FF, 0, 0, 0xFF00⟩ : PerRegion Word).get i).toNat / 256 :=
  by intro i; cases i <;> decide

/-- A store at the last word of its region. -/
theorem test_witness_DirectWindowReadReachesItsSlot :
    tc.fault = none ∧ tc.cfg.csBase ≤ (0x3FFFF : Addr).toNat ∧
      (0x3FFFF : Addr).toNat = tc.cfg.csBase + csStart tc.cs .cs0 + 0xFFFF ∧ 0xFFFF < csSize tc.cs .cs0 ∧
      tc.slots.get .cs0 = .store (words [(0xFFFF, 0x1FFF), (0x10000, 0x1000)]) :=
  ⟨rfl, by decide, by decide, by decide, rfl⟩

/-- A ROM. -/
theorem test_witness_DirectWindowReadReachesItsSlot_rom :
    tc.fault = none ∧ tc.cfg.csBase ≤ (0x50000 : Addr).toNat ∧
      (0x50000 : Addr).toNat = tc.cfg.csBase + csStart tc.cs .cs2 + 0 ∧ 0 < csSize tc.cs .cs2 ∧
      tc.slots.get .cs2 = .rom (words [(0xABCD, 0x3BCD)]) :=
  ⟨rfl, by decide, by decide, by decide, rfl⟩

/-- A capability at its first word. -/
theorem test_witness_DirectWindowReadReachesItsSlot_device :
    tc.fault = none ∧ tc.cfg.csBase ≤ (0x60000 : Addr).toNat ∧
      (0x60000 : Addr).toNat = tc.cfg.csBase + csStart tc.cs .cs3 + 0 ∧ 0 < csSize tc.cs .cs3 ∧
      tc.slots.get .cs3 = .device [] :=
  ⟨rfl, by decide, by decide, by decide, rfl⟩

/-- The first offset no region covers. -/
theorem test_witness_DirectWindowReadReachesItsSlot_beyond :
    tc.fault = none ∧ tc.cfg.csBase + csTotal tc.cs ≤ (0x80000 : Addr).toNat :=
  ⟨rfl, by decide⟩

/-- A canonical store at the last word of its region. -/
theorem test_witness_DirectWindowWriteReachesItsSlot :
    tc.fault = none ∧ tc.cfg.csBase ≤ (0x3FFFF : Addr).toNat ∧
      (0x3FFFF : Addr).toNat = tc.cfg.csBase + csStart tc.cs .cs0 + 0xFFFF ∧ 0xFFFF < csSize tc.cs .cs0 ∧
      tc.slots.get .cs0 = .store (words [(0xFFFF, 0x1FFF), (0x10000, 0x1000)]) ∧ Memory.wf (words [(0xFFFF, 0x1FFF), (0x10000, 0x1000)]) :=
  ⟨rfl, by decide, by decide, by decide, rfl, by decide⟩

/-- A ROM, a capability, and the first offset no region covers. -/
theorem test_witness_DirectWindowWriteReachesItsSlot_others :
    tc.slots.get .cs2 = .rom (words [(0xABCD, 0x3BCD)]) ∧ tc.slots.get .cs3 = .device [] ∧
      (0x60000 : Addr).toNat = tc.cfg.csBase + csStart tc.cs .cs3 + 0 ∧
      (0x5FFFF : Addr).toNat = tc.cfg.csBase + csStart tc.cs .cs2 + 0xFFFF ∧
      tc.cfg.csBase + csTotal tc.cs ≤ (0x80000 : Addr).toNat :=
  ⟨rfl, rfl, by decide, by decide, by decide⟩

/-- `tc` with `CS[0] = 0x0047`. -/
def tc47 : State := { tc with cs := ⟨0x0047, 0, 0, 0, 0⟩ }

/-- Two stores under `CS[0] = 0x0047`. -/
theorem test_witness_AdjacentAddressesCrossSlots :
    tc47.fault = none ∧ tc47.cs = ⟨0x0047, 0, 0, 0, 0⟩ ∧
      tc47.slots.get .cs0 = .store (words [(0xFFFF, 0x1FFF), (0x10000, 0x1000)]) ∧ tc47.slots.get .cs1 = .store (words [(0, 0x2000)]) :=
  ⟨rfl, rfl, rfl, rfl⟩

/-- The last negative translation. -/
theorem test_witness_BankedReadTranslates :
    tc.fault = none ∧ (0x22FFFF : Addr).toNat = tc.cfg.bankWinBase.toNat + 0x2FFFF ∧
      bankTranslate tc.cfg tc.banksw 0x2FFFF < 0 :=
  ⟨rfl, by decide, by decide⟩

/-- A store at the last word of its region. -/
theorem test_witness_BankedReadTranslates_store :
    (0x23FFFF : Addr).toNat = tc.cfg.bankWinBase.toNat + 0x3FFFF ∧
      bankTranslate tc.cfg tc.banksw 0x3FFFF = (csStart tc.cs .cs0 + 0xFFFF : Nat) ∧
      0xFFFF < csSize tc.cs .cs0 ∧ tc.slots.get .cs0 = .store (words [(0xFFFF, 0x1FFF), (0x10000, 0x1000)]) :=
  ⟨by decide, by decide, by decide, rfl⟩

/-- A ROM, a capability, and the first offset no region covers. -/
theorem test_witness_BankedReadTranslates_others :
    bankTranslate tc.cfg tc.banksw 0x50000 = (csStart tc.cs .cs2 + 0 : Nat) ∧
      tc.slots.get .cs2 = .rom (words [(0xABCD, 0x3BCD)]) ∧
      bankTranslate tc.cfg tc.banksw 0x60000 = (csStart tc.cs .cs3 + 0 : Nat) ∧
      tc.slots.get .cs3 = .device [] ∧
      bankTranslate tc.cfg tc.banksw 0x80000 = (0x50000 : Nat) ∧ csTotal tc.cs ≤ 0x50000 :=
  ⟨by decide, rfl, by decide, rfl, by decide, by decide⟩

/-- The last negative translation, and the first that is none. -/
theorem test_witness_BankedWriteTranslates :
    tc.fault = none ∧ bankTranslate tc.cfg tc.banksw 0x2FFFF < 0 ∧
      bankTranslate tc.cfg tc.banksw 0x30000 = (csStart tc.cs .cs0 + 0 : Nat) ∧ 0 < csSize tc.cs .cs0 :=
  ⟨rfl, by decide, by decide, by decide⟩

/-- A canonical store, a ROM, a capability, and the first offset no region covers. -/
theorem test_witness_BankedWriteTranslates_slots :
    tc.slots.get .cs0 = .store (words [(0xFFFF, 0x1FFF), (0x10000, 0x1000)]) ∧ Memory.wf (words [(0xFFFF, 0x1FFF), (0x10000, 0x1000)]) ∧
      bankTranslate tc.cfg tc.banksw 0x5FFFF = (csStart tc.cs .cs2 + 0xFFFF : Nat) ∧
      tc.slots.get .cs2 = .rom (words [(0xABCD, 0x3BCD)]) ∧
      bankTranslate tc.cfg tc.banksw 0x6FFFF = (csStart tc.cs .cs3 + 0xFFFF : Nat) ∧
      tc.slots.get .cs3 = .device [] ∧ bankTranslate tc.cfg tc.banksw 0x80000 = (0x50000 : Nat) ∧
      csTotal tc.cs ≤ 0x50000 :=
  ⟨rfl, by decide, by decide, rfl, by decide, rfl, by decide, by decide⟩

/-- BK6: `0x40000` and, under bank 0, `0x240000`. -/
theorem test_witness_WindowsAliasTheSameWords :
    tc.fault = none ∧ tc.cfg.csBase ≤ (0x40000 : Addr).toNat ∧
      tc.cfg.bankWinBase.toNat ≤ (0x240000 : Addr).toNat ∧
      bankTranslate tc.cfg tc.banksw ((0x240000 : Addr).toNat - tc.cfg.bankWinBase.toNat) =
        ((0x40000 : Addr).toNat : Int) - tc.cfg.csBase ∧
      (0x40000 : Addr).toNat = tc.cfg.csBase + csStart tc.cs .cs1 + 0 ∧ 0 < csSize tc.cs .cs1 ∧
      tc.slots.get .cs1 = .store (words [(0, 0x2000)]) ∧ Memory.wf (words [(0, 0x2000)]) :=
  ⟨rfl, by decide, by decide, by decide, by decide, by decide, rfl, by decide⟩

/-- The last word of internal RAM. -/
theorem test_witness_InternalRamIsPlainMemory :
    tc.fault = none ∧ tc.cfg.inIram (0x6FFF : Addr).toNat = true ∧ tc.iram.wf :=
  ⟨rfl, by decide, by decide⟩

/-- The last word of internal ROM. -/
theorem test_witness_InternalRomReadsAndDropsWrites :
    tc.fault = none ∧ tc.cfg.inIrom (0xFFFF : Addr).toNat = true :=
  ⟨rfl, by decide⟩

/-- One read and the longest stream. -/
theorem test_witness_AddressWriteRestartsTheStream :
    tc.fault = none ∧ tc.nandCmd = 0x00 ∧ 0 + 1 < 2 ^ 32 ∧ 2 ^ 32 - 2 + 1 < 2 ^ 32 :=
  ⟨rfl, rfl, by decide, by decide⟩

/-- A valid configuration and the last channel. -/
theorem test_witness_StatusAlwaysReportsReady :
    tc.fault = none ∧ tc.cfg.Valid ∧ 2 < 3 :=
  ⟨rfl, by decide, by decide⟩

/-- Ready. -/
theorem test_witness_TriggerRunsTheModeOfItsChannel :
    tc.Ready ∧ Instr.trigCh1 ∈ triggers .ch1 :=
  ⟨⟨rfl, rfl⟩, by decide⟩

/-- Ready. -/
theorem test_witness_EveryTriggerCompletesAndClears :
    tc.Ready ∧ Instr.dmaNand8 .ch2 ∈ triggers .ch2 ++ modeRows .ch2 0 :=
  ⟨⟨rfl, rfl⟩, by decide⟩

/-- The words on either side of the ordinals. -/
theorem test_witness_BadTriggerFaults :
    tc.Ready ∧ ((0 : Word) ≠ 1 ∧ (0 : Word) ≠ 2 ∧ (0 : Word) ≠ 3) ∧
      ((4 : Word) ≠ 1 ∧ (4 : Word) ≠ 2 ∧ (4 : Word) ≠ 3) :=
  ⟨⟨rfl, rfl⟩, by decide, by decide⟩

/-- The start of vector DMA19. -/
def tc19 : State := setup (tcRam [(0x3000, 2), (0x3001, 0x5555)]) .ch0 0x0009 0x3000 0x7ABF 2

/-- DMA19. The first write is the trigger, started by the row and by both triggers; and the case from internal RAM. -/
theorem test_witness_NestedTriggerStopsTheTransfer :
    tc19.Ready ∧ ⟨0x0009, 0x3000, 0x7ABF, 2⟩ = latch tc19.dma .ch0 ∧ (1, .dmaCopy16 .ch0) ∈ wordRows .ch0 ∧
      0x7ABF + 0 = 0x7ABF ∧ 0 < 2 ∧ starters tc19 .ch0 (.dmaCopy16 .ch0) = [.dmaCopy16 .ch0, .dmatrigW 1, .trigCh0] ∧
      tc19.cfg.Valid ∧ inRam tc19.cfg 0x3000 1 ∧
      (2 : Word) = tc19.iram.readWord (0x3000 - tc19.cfg.iramBase.toNat) :=
  ⟨⟨rfl, rfl⟩, by decide, by decide, by decide, by decide, by decide, by decide, ⟨by decide, by decide⟩,
    by decide⟩

/-- TC19 with the destination one lower: the second and last write is the trigger. -/
def tc19Second : State := setup (tcRam [(0x3000, 2), (0x3001, 0x5555)]) .ch0 0x4009 0x3000 0x7ABE 2

/-- The last write of the transfer is the trigger, from internal RAM. -/
theorem test_witness_NestedTriggerStopsTheTransfer_second :
    tc19Second.Ready ∧ ⟨0x4009, 0x3000, 0x7ABE, 2⟩ = latch tc19Second.dma .ch0 ∧
      (1, .dmaCopy16b .ch0) ∈ wordRows .ch0 ∧ 0x7ABE + 1 = 0x7ABF ∧ 1 < 2 ∧
      trigRow .ch0 ∈ starters tc19Second .ch0 (.dmaCopy16b .ch0) ∧ tc19Second.cfg.Valid ∧
      inRam tc19Second.cfg 0x3000 (1 + 1) ∧
      (2 : Word) = tc19Second.iram.readWord (0x3000 - tc19Second.cfg.iramBase.toNat) ∧
      (0x5555 : Word) = tc19Second.iram.readWord (0x3000 + 1 - tc19Second.cfg.iramBase.toNat) :=
  ⟨⟨rfl, rfl⟩, by decide, by decide, by decide, by decide, by decide, by decide, ⟨by decide, by decide⟩,
    by decide, by decide⟩

/-- Four bytes from the sequencer: the second word is the trigger. -/
theorem test_witness_NestedTriggerStopsTheTransfer_nand :
    (setup tc .ch1 0x1089 0 0x7ABE 4).Ready ∧
      ⟨0x1089, 0, 0x7ABE, 4⟩ = latch (setup tc .ch1 0x1089 0 0x7ABE 4).dma .ch1 ∧
      0x7ABE + 1 = 0x7ABF ∧ 1 < 4 / 2 ∧
      Instr.dmatrigW 2 ∈ starters (setup tc .ch1 0x1089 0 0x7ABE 4) .ch1 (.dmaNand8 .ch1) :=
  ⟨⟨rfl, rfl⟩, by decide, by decide, by decide, by decide⟩

/-- Inside a transfer. -/
theorem test_witness_TriggerInsideTransferFaults :
    { tc with phase := .copying }.fault = none ∧ { tc with phase := .copying }.phase ≠ .idle :=
  ⟨rfl, by decide⟩

/-- A copy that ends at the last word of internal RAM. -/
def tcCopy : State := setup (tcRam [(0x3000, 0xA), (0x3001, 0xB)]) .ch0 0x4009 0x3000 0x6FFE 2

/-- A copy to the end of internal RAM; its mode is one of the two. -/
theorem test_witness_CopyMovesRamWords :
    tcCopy.Ready ∧ tcCopy.cfg.Valid ∧ tcCopy.iram.wf ∧ ⟨0x4009, 0x3000, 0x6FFE, 2⟩ = latch tcCopy.dma .ch0 ∧
      inRam tcCopy.cfg 0x3000 2 ∧ inRam tcCopy.cfg 0x6FFE 2 ∧ (0x6FFE ≤ 0x3000 ∨ 0x3000 + 2 ≤ 0x6FFE) :=
  ⟨⟨rfl, rfl⟩, by decide, by decide, by decide, ⟨by decide, by decide⟩, ⟨by decide, by decide⟩, by decide⟩

/-- The start of vector DMA4, on two words. -/
def tcOver : State := setup (tcRam [(0x3000, 1), (0x3001, 2), (0x3002, 3)]) .ch0 0x0009 0x3000 0x3001 2

/-- DMA4. -/
theorem test_witness_OverlappingCopyRepeatsFirstWord :
    tcOver.Ready ∧ tcOver.cfg.Valid ∧ tcOver.iram.wf ∧ ⟨0x0009, 0x3000, 0x3001, 2⟩ = latch tcOver.dma .ch0 ∧
      inRam tcOver.cfg 0x3000 (2 + 1) ∧ 0x3001 = 0x3000 + 1 :=
  ⟨⟨rfl, rfl⟩, by decide, by decide, by decide, ⟨by decide, by decide⟩, rfl⟩

/-- A fill whose source lies inside its destination. -/
theorem test_witness_FillRepeatsTheSourceWord :
    tcOver.Ready ∧ tcOver.cfg.Valid ∧ tcOver.iram.wf ∧
      ⟨0x0089, 0x3001, 0x3000, 3⟩ = latch (setup tcOver .ch1 0x0089 0x3001 0x3000 3).dma .ch1 ∧
      inRam tcOver.cfg 0x3001 1 ∧ inRam tcOver.cfg 0x3000 3 :=
  ⟨⟨rfl, rfl⟩, by decide, by decide, by decide, ⟨by decide, by decide⟩, ⟨by decide, by decide⟩⟩

/-- The start of vector DMA14, at the end of internal RAM. -/
def tcPort : State := setup { tc with nandAddrLo := 8 } .ch0 0x0089 0x7854 0x6FFD 3

/-- DMA14. -/
theorem test_witness_FillFromDataPortStreamsBytes :
    tcPort.Ready ∧ tcPort.cfg.Valid ∧ tcPort.iram.wf ∧ ⟨0x0089, 0x7854, 0x6FFD, 3⟩ = latch tcPort.dma .ch0 ∧
      inRam tcPort.cfg 0x6FFD 3 :=
  ⟨⟨rfl, rfl⟩, by decide, by decide, by decide, ⟨by decide, by decide⟩⟩

/-- DMA11, odd length. -/
theorem test_witness_NandTransferPacksBytePairs :
    tcPort.Ready ∧ tcPort.cfg.Valid ∧ tcPort.iram.wf ∧
      ⟨0x1089, 0x1234, 0x6FFE, 5⟩ = latch (setup tcPort .ch2 0x1089 0x1234 0x6FFE 5).dma .ch2 ∧
      inRam tcPort.cfg 0x6FFE (5 / 2) :=
  ⟨⟨rfl, rfl⟩, by decide, by decide, by decide, ⟨by decide, by decide⟩⟩

/-- A ready machine whose channel 1 holds a word next to a listed one. -/
theorem test_witness_UnhandledModeMovesNothing :
    (tc.setDma .ch1 .mode 0x0008).Ready ∧ 0x0008 = (tc.setDma .ch1 .mode 0x0008).dma.get .ch1 .mode ∧
      (0x0008 : Word) ≠ 0x1089 ∧ (0x0008 : Word) ≠ 0x0009 ∧ (0x0008 : Word) ≠ 0x4009 ∧
      (0x0008 : Word) ≠ 0x0089 ∧ trigRow .ch1 ∈ triggers .ch1 :=
  ⟨⟨rfl, rfl⟩, rfl, by decide, by decide, by decide, by decide, by decide⟩

/-- A trigger that ends without a fault. -/
theorem test_witness_SecondTriggerMovesNothing :
    tc.Ready ∧ Instr.dmatrigW 1 ∈ triggers .ch0 ∧
      exec (.dmatrigW 1) tc = .next (tc.addLog (.dmaUnhandledMode .ch0 0 0 0 0)) ∧
      (tc.addLog (.dmaUnhandledMode .ch0 0 0 0 0)).fault = none :=
  ⟨⟨rfl, rfl⟩, by decide, rfl, rfl⟩

/-- The start of vector DMA18. -/
def tc18 : State := setup (tcRam [(0x3000, 0x0147), (0x3001, 0x0247)]) .ch0 0x0009 0x3000 0x7820 2

/-- DMA18. -/
theorem test_witness_TransferReachesTheBlocksRegisters :
    tc18.Ready ∧ tc18.cfg.Valid ∧ ⟨0x0009, 0x3000, 0x7820, 2⟩ = latch tc18.dma .ch0 ∧ inRam tc18.cfg 0x3000 2 :=
  ⟨⟨rfl, rfl⟩, by decide, by decide, ⟨by decide, by decide⟩⟩

/-- A faulted machine and an access. -/
theorem test_witness_FaultedMachineRefusesAccesses :
    { tc with fault := some (.dmaBadTrigger 4) }.fault = some (.dmaBadTrigger 4) ∧ Instr.bankswR ≠ .reset ∧
      Instr.bankswR ≠ .bootstrapNand :=
  ⟨rfl, by decide, by decide⟩

/-- An operation with a next state. -/
theorem test_witness_OnlyResetWritesInternalRom :
    exec (.bankswW 3) tc = .next { tc with banksw := 3 } ∧ Instr.bankswW 3 ≠ .reset ∧
      Instr.bankswW 3 ≠ .bootstrapNand :=
  ⟨rfl, by decide, by decide⟩

/-- An operation that logs. -/
theorem test_witness_LogOnlyGrows :
    exec (.iromW 0xFFF7 1) tc = .next { tc with log := [.romWrite 0xFFF7 1] } ∧ Instr.iromW 0xFFF7 1 ≠ .reset :=
  ⟨rfl, by decide⟩

/-- Internal RAM that ends with the boot block. -/
def tcFit : State := { tc with cfg := { tcCfg with iramSize := 0x1520 } }

/-- One word less. -/
def tcStray : State := { tc with cfg := { tcCfg with iramSize := 0x151F } }

/-- A block that ends at the last word of internal RAM. -/
theorem test_witness_BootstrapPlacesBlockAndVectors :
    tcFit.iram.wf ∧ tcFit.irom.wf ∧ (0x15 : Byte) = imageByte tcFit.cfg 0x15 ∧
      0x1500 = (0x15 : Byte).toNat * 256 ∧ 0 = tcFit.cfg.iramBase.toNat ∧ 0 ≤ 0x1500 ∧
      0x1500 + tcFit.cfg.initialCopyWords ≤ 0 + tcFit.cfg.iramSize :=
  by decide

/-- One word too many. -/
theorem test_witness_StrayBootBlockIsRefused :
    0x1500 = (imageByte tcStray.cfg 0x15).toNat * 256 ∧
      ¬(tcStray.cfg.iramBase.toNat ≤ 0x1500 ∧
        0x1500 + tcStray.cfg.initialCopyWords ≤ tcStray.cfg.iramBase.toNat + tcStray.cfg.iramSize) ∧
      tcStray.cfg.bootSource = .nand :=
  by decide

/-- A block that just fits. -/
theorem test_witness_ResetRunsTheSequence :
    tcFit.cfg.bootSource = .nand ∧ tcFit.cfg.iramBase.toNat ≤ (imageByte tcFit.cfg 0x15).toNat * 256 ∧
      (imageByte tcFit.cfg 0x15).toNat * 256 + tcFit.cfg.initialCopyWords
        ≤ tcFit.cfg.iramBase.toNat + tcFit.cfg.iramSize ∧ tcFit.cfg.iromImage.wf :=
  by decide

/-- The two other sources. -/
theorem test_witness_OtherBootSourcesPlaceNothing :
    { tcCfg with bootSource := .internalMirror }.bootSource ≠ .nand ∧
      { tcCfg with bootSource := .spi }.bootSource ≠ .nand :=
  by decide

/-- A valid configuration and the last address. -/
theorem test_witness_DecodeInvertsEncode :
    tcCfg.Valid ∧ Instr.wf tcCfg (.unmappedW 0xFFFFFFFF 0xFFFF) = true :=
  by decide

/-- The two ends of the block, and a register. -/
theorem test_witness_RegisterMapMatchesTheUnhandledList :
    0x7000 ≤ 0x7000 ∧ 0x7FFF ≤ 0x7FFF ∧ sysregTarget 0x7824 = .reg (.cs .cs4) :=
  by decide

/-- A valid configuration, and the two ends of the register block. -/
theorem test_witness_AddressMapSelectsByRange :
    tcCfg.Valid ∧ (0x7000 ≤ (0x7000 : Addr).toNat ∧ (0x7000 : Addr).toNat ≤ 0x7FFF) ∧
      (0x7000 ≤ (0x7FFF : Addr).toNat ∧ (0x7FFF : Addr).toNat ≤ 0x7FFF) :=
  ⟨by decide, by decide, by decide⟩

/-- An address beside the trigger register and the register itself; a copy of one word to the former. -/
theorem test_witness_CpuAccessesAreTheBusPrimitives :
    busTarget tc.cfg 0x7ABE ≠ .reg .dmaStatus ∧ busTarget tc.cfg 0x7ABF = .reg .dmaStatus ∧
      (setup tc .ch2 0x0009 0x7854 0x7ABE 1).Ready ∧
      ⟨0x0009, 0x7854, 0x7ABE, 1⟩ = latch (setup tc .ch2 0x0009 0x7854 0x7ABE 1).dma .ch2 :=
  ⟨by decide, by decide, ⟨rfl, rfl⟩, by decide⟩

/-- A pending stimulus, none, and a configuration with overlapping ranges. -/
theorem test_witness_StepRunsTheDecodedOperation :
    tc.cfg.Valid ∧ { tc with input := [.wr 0x7810 3] }.input = .wr 0x7810 3 :: [] ∧ tc.input = [] ∧
      valid { tcCfg with iramSize := 0x7001 } = false :=
  ⟨by decide, rfl, rfl, by decide⟩

/-- A state with memories of no listed byte, and one stimulus. -/
def tcInv : State :=
  { tc with irom := [], slots := State.reset.slots, input := [.wr 0x7810 3] }

/-- The invariant and a step. -/
theorem test_witness_StepKeepsTheInvariant :
    tcInv.Inv ∧ step tcInv = .next { tcInv with banksw := 3, input := [] } :=
  by
    refine ⟨⟨rfl, by decide, by decide, by decide, by decide, fun i => ?_, fun _ _ => rfl⟩, by rfl⟩
    cases i <;> exact (by decide : Memory.wf [])

end Sys2Proof.Tests
end

section
/-! PROOFS. The statements about the state of 10_state: the values it holds after reset, the log, and the
invariant of every step. -/

namespace Sys2Proof.Machine

/-! ## What keeps the invariant -/

/-- The invariant through everything a bus access or a transfer can do. -/
theorem State.Inv.of_keeps {s t : State} (hs : s.Inv) (k : Keeps s t) : t.Inv where
  phase := k.phase.trans hs.phase
  iram_wf := k.iram_wf hs.iram_wf
  iram_within := k.cfg ▸ k.iram_within hs.iram_within
  irom_wf := k.irom ▸ hs.irom_wf
  irom_within := k.irom ▸ hs.irom_within
  slots_wf := k.slots_wf hs.slots_wf
  irom_image := by rw [k.irom, k.cfg]; exact hs.irom_image

theorem State.Inv.setReadData {s : State} (hs : s.Inv) (v : Word) : (s.setReadData v).Inv := { hs with }

theorem State.Inv.setEntryPc {s : State} (hs : s.Inv) (v : Word) : (s.setEntryPc v).Inv := { hs with }

theorem State.Inv.setInput {s : State} (hs : s.Inv) (l : List Stimulus) : (s.setInput l).Inv :=
  { hs with }

/-- The patch leaves every word below the vector slots. -/
theorem patchVectors_word_below (c : Config) (n : Nat) (m : Memory) {o : Nat} (h : o < vectorSlot0) :
    (patchVectors c n m).readWord o = m.readWord o := by
  simp only [Memory.readWord]
  rw [patchVectors_byte_other (by omega), patchVectors_byte_other (by omega)]

/-- A boot block that fits ends inside internal RAM, counted from its base (44_bootstrap R219). -/
theorem bootBlock_within_iram {c : Config} (h : bootFits c = true) :
    (bootDestOf c).toNat - c.iramBase.toNat + c.initialCopyWords ≤ c.iramSize := by
  have := of_decide_eq_true h
  omega

theorem State.Inv.bootstrap {s : State} (hs : s.Inv) (hf : bootFits s.cfg = true) :
    (bootstrap s).Inv where
  phase := hs.phase
  iram_wf := by rw [bootstrap_iram]; exact copyBoot_wf hs.iram_wf
  iram_within := by
    rw [bootstrap_iram, bootstrap_cfg]
    exact copyBoot_within hs.iram_within (bootBlock_within_iram hf)
  irom_wf := by rw [bootstrap_irom]; exact patchVectors_wf hs.irom_wf
  irom_within := by rw [bootstrap_irom]; exact patchVectors_within hs.irom_within (Nat.le_refl 11)
  slots_wf := hs.slots_wf
  irom_image o ho := by
    rw [bootstrap_irom, bootstrap_cfg, patchVectors_word_below s.cfg 11 s.irom ho]
    exact hs.irom_image o ho

/-- The registers' reset puts the mask-ROM image in internal ROM, whose form and range are constraints on the
configuration (10_state R32). -/
theorem State.Inv.resetRegisters {s : State} (hs : s.Inv) (hv : s.cfg.Valid) :
    (resetRegisters s).Inv := by
  obtain ⟨-, -, -, -, image_wf, image_within⟩ := hv
  exact { hs with
    phase := rfl
    irom_wf := image_wf
    irom_within := image_within
    irom_image := fun _ _ => rfl }

theorem State.Inv.leaveReset {s : State} (hs : s.Inv) : (leaveReset s).Inv :=
  (hs.setEntryPc _).setReadData _

/-- Every operation keeps the invariant under a valid configuration, its RAM write lying in RAM. -/
theorem exec_keeps_inv {i : Instr} {s t : State} (hs : s.Inv) (hv : s.cfg.Valid)
    (hw : ∀ a v, i = .iramW a v → s.cfg.inIram a.toNat = true) (h : exec i s = .next t) : t.Inv := by
  by_cases hr : i = .reset
  · subst hr
    obtain ⟨-, hf, rfl⟩ | ⟨-, rfl⟩ := reset_next h
    · exact ((hs.resetRegisters hv).bootstrap hf).leaveReset
    · exact (hs.resetRegisters hv).leaveReset
  by_cases hb : i = .bootstrapNand
  · subst hb
    obtain ⟨hf, rfl⟩ := bootstrapNand_next h
    exact hs.bootstrap hf
  exact (hs.setReadData _).of_keeps (exec_keeps h hr hb hw)

/-! ## A decoded RAM write lies in RAM -/

theorem regWriteInstr_ne_iramW (r : Reg) (v v' : Word) (a : Addr) : regWriteInstr r v ≠ .iramW a v' := by
  cases r
  case cs i => cases i <;> exact nofun
  case dma ch k => cases ch <;> cases k <;> exact nofun
  all_goals exact nofun

theorem regReadInstr_ne_iramW (r : Reg) (v : Word) (a : Addr) : regReadInstr r ≠ .iramW a v := by
  cases r
  case cs i => cases i <;> exact nofun
  case dma ch k => cases ch <;> cases k <;> exact nofun
  all_goals exact nofun

/-- Among the bus writes only that on internal RAM is its row, with the address it was given. -/
theorem writeInstr_eq_iramW {t : Target} {a a' : Addr} {v v' : Word}
    (h : writeInstr t a v = .iramW a' v') : t = .iram ∧ a' = a := by
  cases t
  case reg r => exact absurd h (regWriteInstr_ne_iramW r v v' a')
  case iram => cases h; exact ⟨rfl, rfl⟩
  all_goals cases h

theorem readInstr_ne_iramW (t : Target) (a a' : Addr) (v : Word) : readInstr t a ≠ .iramW a' v := by
  cases t
  case reg r => exact regReadInstr_ne_iramW r v a'
  all_goals exact nofun

theorem decodeStimulus_iramW {c : Config} {x : Stimulus} {a : Addr} {v : Word}
    (h : decode c x.code = .iramW a v) : c.inIram a.toNat = true := by
  cases x with
  | reset => cases h
  | access sel data =>
    have h : decodeBus c sel data = .iramW a v := h
    unfold decodeBus at h
    split at h
    · obtain ⟨ht, rfl⟩ := writeInstr_eq_iramW h
      exact inIram_of_busTarget ht
    · exact absurd h (readInstr_ne_iramW _ _ _ _)

/-- What a step that answers a next state has done: nothing, or the operation of the next stimulus, and this
under a valid configuration only. -/
theorem step_next {s t : State} (h : step s = .next t) :
    s.cfg.Valid ∧ (t = s ∨
      ∃ x rest, s.input = x :: rest ∧ exec (decode s.cfg x.code) (s.setInput rest) = .next t) := by
  unfold step at h
  split at h
  · refine ⟨‹_›, ?_⟩
    split at h
    · exact .inl (by cases h; rfl)
    · exact .inr ⟨_, _, ‹_›, h⟩
  · cases h

/-- Settles O59: the step is idle or runs one decoded operation, every one of which keeps the invariant. -/
theorem stepKeepsTheInvariant : Obligations.StepKeepsTheInvariant := by
  intro s t hs h
  obtain ⟨hv, rfl | ⟨x, rest, -, hx⟩⟩ := step_next h
  · exact hs
  · exact exec_keeps_inv (hs.setInput rest) hv (fun _ _ => decodeStimulus_iramW) hx

/-! ## The log -/

/-- A RAM write adds nothing to the log, wherever its address lies. -/
theorem iramW_log {a : Addr} {v : Word} {s t : State} (h : exec (.iramW a v) s = .next t) :
    t.log = s.log := by
  obtain ⟨-, rfl⟩ := cpuWrite_next (f := iramWrite a v) h
  rfl

/-- Settles O45: the two operations outside `exec_keeps` leave the log, every other one only extends it. -/
theorem logOnlyGrows : Obligations.LogOnlyGrows := by
  intro i s t h hr
  suffices hp : s.log <+: t.log from hp.imp fun _ hl => hl.symm
  by_cases hb : i = .bootstrapNand
  · subst hb
    obtain ⟨-, rfl⟩ := bootstrapNand_next h
    exact List.prefix_rfl
  by_cases hi : ∃ a v, i = .iramW a v
  · obtain ⟨a, v, rfl⟩ := hi
    exact (iramW_log h).symm ▸ List.prefix_rfl
  · exact (exec_keeps h hr hb fun a v e => absurd ⟨a, v, e⟩ hi).log

/-! ## The state after reset -/

/-- Settles O50, field by field; the layout is that of five zero control words (40_chipselect R135). -/
theorem resetStateHoldsTheResetValues : Obligations.ResetStateHoldsTheResetValues := by
  refine ⟨fun i => ?cs, fun i => ?start, rfl, rfl, rfl, rfl, rfl, rfl, fun ch k => ?dma, rfl, rfl, rfl,
    rfl, by decide⟩
  case cs => cases i <;> rfl
  case start => cases i <;> rfl
  case dma => cases ch <;> cases k <;> rfl

/-- Every byte internal ROM lists after reset belongs to a vector slot. -/
theorem reset_irom_vectors : ∀ c ∈ State.reset.irom, 2 * vectorSlot0 ≤ c.1 := by decide

/-- Below the vector slots internal ROM reads as the blank image of the reference platform. -/
theorem reset_irom_word_below {o : Nat} (h : o < vectorSlot0) :
    State.reset.irom.readWord o = Memory.readWord [] o := by
  have below {k : Nat} (hk : k < 2 * vectorSlot0) : State.reset.irom.readByte k = Memory.blank :=
    Memory.readByte_below fun c hc => Nat.lt_of_lt_of_le hk (reset_irom_vectors c hc)
  simp only [Memory.readWord]
  rw [below (by omega), below (by omega)]
  rfl

/-- Settles O60: the memories are small closed data, and the vector words lie past the image's part of the
invariant. -/
theorem resetStateMeetsTheInvariant : Obligations.ResetStateMeetsTheInvariant where
  phase := rfl
  iram_wf := Memory.wf_nil
  iram_within := nofun
  irom_wf := by decide
  irom_within := by decide
  slots_wf i := by cases i <;> exact Memory.wf_nil
  irom_image _ ho := reset_irom_word_below ho

end Sys2Proof.Machine
end

section
/-! PROOFS. The statements about the address map of 20_memory: what selects each target, that both initiators access
it through one bus read and one bus write, and what internal RAM, internal ROM, the two windows and unmapped space
answer. -/

namespace Sys2Proof.Machine

/-! ## The CPU's accesses, by what their read or write answers -/

theorem cpuRead_of_eq {f : State → Word × State} {w : Word} {s t : State} (hf : s.fault = none)
    (h : f s = (w, t)) : cpuRead f s = .next (t.setReadData w) := by
  rw [cpuRead_of_none hf, h]

theorem cpuWrite_of_eq {f : State → State} {s t : State} (hf : s.fault = none) (h : f s = t) :
    cpuWrite f s = .next t := by
  rw [cpuWrite_of_none hf, h]

theorem cpuRead_congr {f g : State → Word × State} {s : State} (h : f s = g s) :
    cpuRead f s = cpuRead g s := by
  rw [cpuRead, cpuRead, h]

theorem cpuWrite_congr {f g : State → State} {s : State} (h : f s = g s) :
    cpuWrite f s = cpuWrite g s := by
  rw [cpuWrite, cpuWrite, h]

/-! ## Chip-select space: the covered offsets and the ones past the layout -/

/-- A region ends before every later one begins (40_chipselect R132). -/
theorem csEnd_le_csStart (cs : PerRegion Word) {i j : CsIndex} (h : regionNumber j < regionNumber i) :
    csEnd cs j ≤ csStart cs i := by
  revert h
  cases i <;> cases j <;> simp only [regionNumber, csEnd, csStart] <;> omega

/-- A region's offsets route to the region (40_chipselect R134). -/
theorem csLookup_of_covered (cs : PerRegion Word) (i : CsIndex) {r : Nat} (h : r < csSize cs i) :
    csLookup cs (csStart cs i + r) = some (i, r) := by
  have own : csStart cs i + r < csEnd cs i := Nat.add_lt_add_left h _
  have past (j : CsIndex) (hj : regionNumber j < regionNumber i) : ¬csStart cs i + r < csEnd cs j :=
    Nat.not_lt.mpr (Nat.le_trans (csEnd_le_csStart cs hj) (Nat.le_add_right _ r))
  cases i <;> simp (disch := decide) only [csLookup, own, past, ↓reduceIte, Nat.add_sub_cancel_left]

theorem csEnd_le_csTotal (cs : PerRegion Word) (i : CsIndex) : csEnd cs i ≤ csTotal cs := by
  cases i <;> simp only [csTotal, csEnd, csStart] <;> omega

/-- From `total` on no region answers (40_chipselect R137). -/
theorem csLookup_of_beyond {cs : PerRegion Word} {o : Nat} (h : csTotal cs ≤ o) : csLookup cs o = none := by
  have past (i : CsIndex) : ¬o < csEnd cs i := Nat.not_lt.mpr (Nat.le_trans (csEnd_le_csTotal cs i) h)
  simp only [csLookup, past, ↓reduceIte]

/-! ## The direct window -/

theorem directRead_of_store {s : State} {a : Addr} {i : CsIndex} {r : Nat} {m : Memory}
    (ha : a.toNat = s.cfg.csBase + csStart s.cs i + r) (hr : r < csSize s.cs i)
    (hm : s.slots.get i = .store m) : directRead a s = (m.readWord r, s) := by
  have ho : a.toNat - s.cfg.csBase = csStart s.cs i + r := by omega
  rw [directRead, ho, csSpaceRead_of_some (csLookup_of_covered s.cs i hr), slotRead, hm]

theorem directWrite_of_store {s : State} {a : Addr} {v : Word} {i : CsIndex} {r : Nat} {m : Memory}
    (ha : a.toNat = s.cfg.csBase + csStart s.cs i + r) (hr : r < csSize s.cs i)
    (hm : s.slots.get i = .store m) : directWrite a v s = s.setSlot i (.store (m.writeWord r v)) := by
  have ho : a.toNat - s.cfg.csBase = csStart s.cs i + r := by omega
  rw [directWrite, ho, csSpaceWrite_of_some (csLookup_of_covered s.cs i hr), slotWrite, hm]

theorem directRead_of_beyond {s : State} {a : Addr} {o : Nat} (ha : a.toNat = s.cfg.csBase + o)
    (ho : csTotal s.cs ≤ o) : directRead a s = defaultRead (.csUnmapped o none) s := by
  rw [directRead, ha, Nat.add_sub_cancel_left, csSpaceRead_of_none (csLookup_of_beyond ho)]

theorem directWrite_of_beyond {s : State} {a : Addr} {v : Word} {o : Nat}
    (ha : a.toNat = s.cfg.csBase + o) (ho : csTotal s.cs ≤ o) :
    directWrite a v s = defaultWrite (.csUnmapped o (some v)) s := by
  rw [directWrite, ha, Nat.add_sub_cancel_left, csSpaceWrite_of_none (csLookup_of_beyond ho)]

/-! ## The banked window -/

/-- Where the translation is an offset, the banked window is the chip-select space there (41_bankwindow R153). -/
theorem bankRead_of_nat {s : State} {o t : Nat} (h : bankTranslate s.cfg s.banksw o = t) :
    bankRead o s = csSpaceRead t s := by
  rw [bankRead, h]

theorem bankWrite_of_nat {s : State} {o t : Nat} {v : Word} (h : bankTranslate s.cfg s.banksw o = t) :
    bankWrite o v s = csSpaceWrite t v s := by
  rw [bankWrite, h]

theorem bankRead_of_neg {s : State} {o : Nat} (h : bankTranslate s.cfg s.banksw o < 0) :
    bankRead o s = defaultRead (.bankNegative o (s.banksw.toNat % 64)
      (bankTranslate s.cfg s.banksw o) none) s := by
  obtain ⟨n, hn⟩ := Int.eq_negSucc_of_lt_zero h
  rw [bankRead, hn, bankIndex_toNat]

theorem bankWrite_of_neg {s : State} {o : Nat} {v : Word} (h : bankTranslate s.cfg s.banksw o < 0) :
    bankWrite o v s = defaultWrite (.bankNegative o (s.banksw.toNat % 64)
      (bankTranslate s.cfg s.banksw o) (some v)) s := by
  obtain ⟨n, hn⟩ := Int.eq_negSucc_of_lt_zero h
  rw [bankWrite, hn, bankIndex_toNat]

/-! ## The two windows on one word -/

/-- Address `a` of the direct window and `b` of the banked window mean one CS offset (20_memory R82). -/
structure SameWord (s : State) (a b : Addr) : Prop where
  base : s.cfg.csBase ≤ a.toNat
  offset : bankTranslate s.cfg s.banksw (b.toNat - s.cfg.bankWinBase.toNat) =
    (a.toNat : Int) - s.cfg.csBase

theorem SameWord.translate {s : State} {a b : Addr} (h : SameWord s a b) :
    bankTranslate s.cfg s.banksw (b.toNat - s.cfg.bankWinBase.toNat) =
      (a.toNat - s.cfg.csBase : Nat) :=
  h.offset.trans (Int.ofNat_sub h.base).symm

theorem SameWord.read {s : State} {a b : Addr} (h : SameWord s a b) :
    exec (.extwinR a) s = exec (.bankwinR b) s :=
  cpuRead_congr (bankRead_of_nat h.translate).symm

theorem SameWord.write {s : State} {a b : Addr} (h : SameWord s a b) (v : Word) :
    exec (.extwinW a v) s = exec (.bankwinW b v) s :=
  cpuWrite_congr (f := directWrite a v) (bankWrite_of_nat h.translate).symm

/-- Settles O13: the two accesses are one operation, before the write and after it, and a store returns what was
written to it. -/
theorem windowsAliasTheSameWords : Obligations.WindowsAliasTheSameWords := by
  intro s a b v hf ha _ ht
  have before : SameWord s a b := ⟨ha, ht⟩
  refine ⟨before.read, before.write v, fun i r m hr hlt hm hw => ?_⟩
  let t := s.setSlot i (.store (m.writeWord r v))
  have after : SameWord t a b := ⟨ha, ht⟩
  have written : exec (.extwinW a v) s = .next t := cpuWrite_of_eq hf (directWrite_of_store hr hlt hm)
  have back : directRead a t = (v, t) := by
    rw [directRead_of_store (s := t) hr hlt (PerRegion.get_set_same ..),
      Memory.readWord_writeWord_same hw]
  have found : exec (.extwinR a) t = .next { t with readData := v } := cpuRead_of_eq hf back
  exact ⟨⟨t, written, after.read ▸ found⟩, ⟨t, before.write v ▸ written, found⟩⟩

/-! ## Internal RAM, internal ROM, unmapped space -/

theorem iramRead_iramWrite {s : State} (hw : s.iram.wf) (a : Addr) (v : Word) :
    iramRead a (iramWrite a v s) = (v, iramWrite a v s) :=
  congrArg (·, iramWrite a v s) (Memory.readWord_writeWord_same hw _ v)

/-- Settles O14, by the laws of memory at the word the address names. -/
theorem internalRamIsPlainMemory : Obligations.InternalRamIsPlainMemory := by
  intro s a v hf _
  refine ⟨cpuRead_of_none hf, fun hw => ?_⟩
  exact ⟨(iramWrite a v s).iram, cpuWrite_of_none hf, Memory.writeWord_wf hw _ v,
    Memory.readWord_writeWord_same hw _ v, fun _ => Memory.readByte_writeWord_other s.iram v,
    cpuRead_of_eq (s := iramWrite a v s) hf (iramRead_iramWrite hw a v)⟩

/-- Settles O15: a read of the word at the address, and a write that only logs. -/
theorem internalRomReadsAndDropsWrites : Obligations.InternalRomReadsAndDropsWrites :=
  fun _ _ _ hf _ => ⟨cpuRead_of_none hf, cpuWrite_of_none hf⟩

/-- What a CPU read answers where nothing does. -/
theorem cpuRead_of_default {f : State → Word × State} {e : Event} {s : State} (hf : s.fault = none)
    (h : f s = defaultRead e s) : cpuRead f s = .next { s with readData := 0, log := s.log ++ [e] } :=
  cpuRead_of_eq hf h

theorem cpuWrite_of_default {f : State → State} {e : Event} {s : State} (hf : s.fault = none)
    (h : f s = defaultWrite e s) : cpuWrite f s = .next { s with log := s.log ++ [e] } :=
  cpuWrite_of_eq hf h

theorem bankedRead_of_neg {s : State} {a : Addr} {o : Nat}
    (ha : a.toNat = s.cfg.bankWinBase.toNat + o) (ht : bankTranslate s.cfg s.banksw o < 0) :
    bankedRead a s = defaultRead (.bankNegative o (s.banksw.toNat % 64)
      (bankTranslate s.cfg s.banksw o) none) s := by
  rw [bankedRead, ha, Nat.add_sub_cancel_left, bankRead_of_neg ht]

theorem bankedWrite_of_neg {s : State} {a : Addr} {v : Word} {o : Nat}
    (ha : a.toNat = s.cfg.bankWinBase.toNat + o) (ht : bankTranslate s.cfg s.banksw o < 0) :
    bankedWrite a v s = defaultWrite (.bankNegative o (s.banksw.toNat % 64)
      (bankTranslate s.cfg s.banksw o) (some v)) s := by
  rw [bankedWrite, ha, Nat.add_sub_cancel_left, bankWrite_of_neg ht]

/-- Settles O16: all six accesses are the default response under the event of their own. -/
theorem unmappedReadsZeroAndDropsWrites : Obligations.UnmappedReadsZeroAndDropsWrites := by
  intro s a v hf
  refine ⟨cpuRead_of_default hf rfl, cpuWrite_of_default hf rfl, fun o ha ho => ?beyond,
    fun o ha ht => ?negative⟩
  case beyond =>
    exact ⟨cpuRead_of_default hf (directRead_of_beyond ha ho),
      cpuWrite_of_default hf (directWrite_of_beyond ha ho)⟩
  case negative =>
    exact ⟨cpuRead_of_default hf (bankedRead_of_neg ha ht),
      cpuWrite_of_default hf (bankedWrite_of_neg ha ht)⟩

/-! ## What no operation changes -/

/-- Settles O44: RESET, BOOTSTRAP.NAND and a RAM write (wherever its address lies) by the state they answer, every
other operation by `exec_keeps`. -/
theorem onlyResetWritesInternalRom : Obligations.OnlyResetWritesInternalRom := by
  intro i s t h
  by_cases hr : i = .reset
  · subst hr
    obtain ⟨-, -, rfl⟩ | ⟨-, rfl⟩ := reset_next h <;> exact ⟨rfl, rfl, fun k => absurd rfl k⟩
  by_cases hb : i = .bootstrapNand
  · subst hb
    obtain ⟨-, rfl⟩ := bootstrapNand_next h
    exact ⟨rfl, rfl, fun _ k => absurd rfl k⟩
  by_cases hi : ∃ a v, i = .iramW a v
  · obtain ⟨a, v, rfl⟩ := hi
    obtain ⟨-, rfl⟩ := cpuWrite_next (f := iramWrite a v) h
    exact ⟨rfl, rfl, fun _ _ => ⟨rfl, rfl⟩⟩
  · have k := exec_keeps h hr hb fun a v e => absurd ⟨a, v, e⟩ hi
    exact ⟨k.cfg, k.input, fun _ _ => ⟨k.irom, k.entryPc⟩⟩

/-! ## The address map -/

/-- The range of the address map a target stands for (20_memory R62). -/
def targetRange (c : Config) : Target → Nat → Bool
  | .video | .audio | .reg _ | .unhandled => Config.inSysreg
  | .iram => c.inIram
  | .irom => c.inIrom
  | .direct => c.inDirect
  | .banked => c.inBanked
  | .unmapped => c.isUnmapped

/-- The four kinds of target inside the register block (20_memory R63). -/
theorem sysregTarget_cases (a : Nat) :
    sysregTarget a = .video ∨ sysregTarget a = .audio ∨ (∃ r, sysregTarget a = .reg r) ∨
      sysregTarget a = .unhandled := by
  unfold sysregTarget
  split
  · exact .inl rfl
  · split
    · exact .inr (.inl rfl)
    · split
      · exact .inr (.inr (.inl ⟨_, rfl⟩))
      · exact .inr (.inr (.inr rfl))

/-- An address lies in the range of the target it selects. -/
theorem targetRange_of_busTarget {c : Config} {a : Addr} {t : Target} (h : busTarget c a = t) :
    targetRange c t a.toNat = true := by
  subst h
  rcases busTarget_cases c a with ⟨hs, e⟩ | ⟨e, hr⟩ | ⟨e, hr⟩ | ⟨e, hr⟩ | ⟨e, hr⟩ | ⟨e, hr⟩ <;> rw [e]
  · rcases sysregTarget_cases a.toNat with k | k | ⟨r, k⟩ | k <;> rw [k] <;> exact hs
  all_goals exact hr

theorem busTarget_irom {c : Config} {a : Addr} (hv : c.Valid) (h : c.inIrom a.toNat = true) :
    busTarget c a = .irom := by
  obtain ⟨hs, hi⟩ := (hv.apart a.toNat).2.1 h
  simp only [busTarget, hs, hi, h, Bool.false_eq_true, ↓reduceIte]

theorem busTarget_direct {c : Config} {a : Addr} (hv : c.Valid) (h : c.inDirect a.toNat = true) :
    busTarget c a = .direct := by
  obtain ⟨hs, hi, ho⟩ := (hv.apart a.toNat).2.2.1 h
  simp only [busTarget, hs, hi, ho, h, Bool.false_eq_true, ↓reduceIte]

theorem busTarget_banked {c : Config} {a : Addr} (hv : c.Valid) (h : c.inBanked a.toNat = true) :
    busTarget c a = .banked := by
  obtain ⟨hs, hi, ho, hd⟩ := (hv.apart a.toNat).2.2.2 h
  simp only [busTarget, hs, hi, ho, hd, h, Bool.false_eq_true, ↓reduceIte]

theorem busTarget_unmapped {c : Config} {a : Addr} (h : c.isUnmapped a.toNat = true) :
    busTarget c a = .unmapped := by
  simp only [Config.isUnmapped, Bool.and_eq_true, Bool.not_eq_true'] at h
  obtain ⟨⟨⟨⟨hs, hi⟩, ho⟩, hd⟩, hb⟩ := h
  simp only [busTarget, hs, hi, ho, hd, hb, Bool.false_eq_true, ↓reduceIte]

/-- Settles O56: a target lies in its range by the first match, and is the only match by the disjoint ranges. -/
theorem addressMapSelectsByRange : Obligations.AddressMapSelectsByRange := by
  intro c a hv
  have block (h : 0x7000 ≤ a.toNat ∧ a.toNat ≤ 0x7FFF) : busTarget c a = sysregTarget a.toNat :=
    busTarget_sysreg (decide_eq_true h)
  have inBlock (t : Target) (ht : targetRange c t = Config.inSysreg) (h : busTarget c a = t) :
      0x7000 ≤ a.toNat ∧ a.toNat ≤ 0x7FFF :=
    of_decide_eq_true (ht ▸ targetRange_of_busTarget h : Config.inSysreg a.toNat = true)
  refine ⟨block, ⟨?range, fun h => block h ▸ sysregTarget_cases a.toNat⟩,
    ⟨targetRange_of_busTarget, busTarget_iram hv⟩, ⟨targetRange_of_busTarget, busTarget_irom hv⟩,
    ⟨targetRange_of_busTarget, busTarget_direct hv⟩, ⟨targetRange_of_busTarget, busTarget_banked hv⟩,
    ⟨targetRange_of_busTarget, busTarget_unmapped⟩⟩
  case range =>
    rintro (h | h | ⟨r, h⟩ | h) <;> exact inBlock _ rfl h

/-! ## Where each register stands -/

/-- The number of a channel's parameter block (30_encoding R104). -/
def strideOf : Channel → Nat
  | .ch0 => 0
  | .ch1 => 1
  | .ch2 => 2

/-- The place of a parameter register in its block (30_encoding R104). -/
def placeOf : DmaReg → Nat
  | .mode => 0
  | .srcLo => 1
  | .dstLo => 2
  | .lenLo => 3
  | .srcHi => 4
  | .dstHi => 5
  | .lenHi => 6

/-- The address of a register (30_encoding R101). -/
def regAddress : Reg → Nat
  | .banksw => 0x7810
  | .cs i => 0x7820 + regionNumber i
  | .nandCmd => 0x7851
  | .nandAddrLo => 0x7852
  | .nandAddrHi => 0x7853
  | .nandData => 0x7854
  | .dma ch k => 0x7A80 + 8 * strideOf ch + placeOf k
  | .dmaSrcType => 0x7ABE
  | .dmaStatus => 0x7ABF

/-- What a lookup at `n` finds stands at `n`, its place being `place`. -/
def FoundAt {α : Type} (place : α → Nat) (n : Nat) (found : Option α) : Prop :=
  ∀ x, found = some x → n = place x

theorem FoundAt.none {α : Type} {place : α → Nat} {n : Nat} : FoundAt place n .none := nofun

theorem FoundAt.ite {α : Type} {place : α → Nat} {n : Nat} {c : Prop} [Decidable c] {p q : Option α}
    (hp : c → FoundAt place n p) (hq : ¬c → FoundAt place n q) :
    FoundAt place n (if c then p else q) := by
  split
  · exact hp ‹_›
  · exact hq ‹_›

/-- One line of a lookup table that names the place of its item. -/
theorem FoundAt.line {α : Type} {place : α → Nat} {n k : Nat} {x : α} {rest : Option α}
    (hx : place x = k) (hr : FoundAt place n rest) :
    FoundAt place n (if n = k then some x else rest) := by
  refine .ite (fun hn => ?_) fun _ => hr
  rintro _ ⟨⟩
  exact hn.trans hx.symm

theorem foundAt_ofStride (n : Nat) : FoundAt strideOf n (Channel.ofStride n) :=
  .line rfl (.line rfl (.line rfl .none))

theorem foundAt_ofPlace (n : Nat) : FoundAt placeOf n (DmaReg.ofPlace n) :=
  .line rfl (.line rfl (.line rfl (.line rfl (.line rfl (.line rfl (.line rfl .none))))))

theorem regAddress_of_dmaRegAt {d : Nat} {r : Reg} (h : dmaRegAt d = some r) :
    regAddress r = 0x7A80 + d := by
  unfold dmaRegAt at h
  split at h
  · rename_i ch k hc hk
    cases h
    have hd : d / 8 = strideOf ch := foundAt_ofStride _ ch hc
    have hm : d % 8 = placeOf k := foundAt_ofPlace _ k hk
    simp only [regAddress]
    omega
  · cases h
  · cases h

/-- The register decoder finds a register at its own address only. -/
theorem foundAt_selectReg (a : Nat) : FoundAt regAddress a (selectReg a) := by
  unfold selectReg
  refine .ite (fun _ => ?low) fun ha => .line rfl (.line rfl fun r hr => ?dma)
  case low =>
    iterate 10 refine .line rfl ?_
    exact .none
  case dma =>
    have := regAddress_of_dmaRegAt hr
    omega

theorem sysregTarget_eq_reg {a : Nat} {r : Reg} (h : sysregTarget a = .reg r) : a = regAddress r := by
  unfold sysregTarget at h
  split at h
  · cases h
  · split at h
    · cases h
    · split at h
      · cases h
        exact foundAt_selectReg a _ ‹_›
      · cases h

theorem busTarget_eq_reg {c : Config} {a : Addr} {r : Reg} (h : busTarget c a = .reg r) :
    a = BitVec.ofNat 32 (regAddress r) := by
  have hs : Config.inSysreg a.toNat = true := targetRange_of_busTarget h
  rw [busTarget_sysreg hs] at h
  rw [← sysregTarget_eq_reg h, BitVec.ofNat_toNat, BitVec.setWidth_eq]

/-! ## The bus primitives -/

/-- The rows of the registers are the register reads of the bus, at the register's own address. -/
theorem exec_regReadInstr (r : Reg) (s : State) :
    exec (regReadInstr r) s = cpuRead (regRead r (BitVec.ofNat 32 (regAddress r))) s := by
  cases r
  case cs i => cases i <;> rfl
  case dma ch k => cases ch <;> cases k <;> rfl
  all_goals rfl

theorem exec_regWriteInstr (r : Reg) (v : Word) (s : State) :
    exec (regWriteInstr r v) s =
      cpuWrite (regWrite triggerWrite r (BitVec.ofNat 32 (regAddress r)) v) s := by
  cases r
  case cs i => cases i <;> rfl
  case dma ch k => cases ch <;> cases k <;> rfl
  all_goals rfl

/-- The read row of the target an address selects is `BusRead` of the address (20_memory R64). -/
theorem exec_readInstr (a : Addr) (s : State) :
    exec (readInstr (busTarget s.cfg a) a) s = cpuRead (busRead a) s := by
  cases h : busTarget s.cfg a
  case reg r =>
    refine (exec_regReadInstr r s).trans (cpuRead_congr ?_)
    rw [← busTarget_eq_reg h, busRead, h]
  all_goals exact cpuRead_congr (by rw [busRead, h])

/-- The write row of the target an address selects is `BusWrite` to the address (20_memory R65). -/
theorem exec_writeInstr (a : Addr) (v : Word) (s : State) :
    exec (writeInstr (busTarget s.cfg a) a v) s = cpuWrite (busWrite a v) s := by
  cases h : busTarget s.cfg a
  case reg r =>
    refine (exec_regWriteInstr r v s).trans (cpuWrite_congr ?_)
    rw [← busTarget_eq_reg h, busWrite, busWriteWith, h]
  all_goals exact cpuWrite_congr (by rw [busWrite, busWriteWith, h])

/-- What a trigger does is nothing to a write of any other address. -/
theorem busWriteWith_congr {f g : Word → State → State} {a : Addr} {v : Word} {s : State}
    (h : busTarget s.cfg a ≠ .reg .dmaStatus) : busWriteWith f a v s = busWriteWith g a v s := by
  unfold busWriteWith
  generalize busTarget s.cfg a = t at h
  cases t
  case reg r =>
    cases r
    case dmaStatus => exact absurd rfl h
    all_goals rfl
  all_goals rfl

/-- Outside the trigger register the engine's write is the CPU's (42_dma R176). -/
theorem engineWrite_eq_busWrite {a : Addr} {v : Word} {s : State}
    (h : busTarget s.cfg a ≠ .reg .dmaStatus) : engineWrite a v s = busWrite a v s :=
  busWriteWith_congr h

theorem engineWrite_trigger {a : Addr} {v : Word} {s : State} (h : busTarget s.cfg a = .reg .dmaStatus) :
    engineWrite a v s = raise (.dmaNestedTrigger v) s := by
  rw [engineWrite, busWriteWith, h]
  rfl

/-- A run of one word to an address beside the trigger register: one read, one write, the channel cleared. -/
theorem runCopy16_one {ch : Channel} {s : State} (hs : s.Ready) (hn : (latch s.dma ch).len = 1)
    (hd : busTarget s.cfg (BitVec.ofNat 32 (latch s.dma ch).dst) ≠ .reg .dmaStatus) :
    runCopy16 ch s =
      (busWrite (BitVec.ofNat 32 (latch s.dma ch).dst)
        (busRead (BitVec.ofNat 32 (latch s.dma ch).src) s).1
        (busRead (BitVec.ofNat 32 (latch s.dma ch).src) s).2).clearDma ch := by
  obtain ⟨hf, hp⟩ := hs
  have kept := busRead_keeps (BitVec.ofNat 32 (latch s.dma ch).src) s
  rw [← kept.cfg] at hd
  rw [← engineWrite_eq_busWrite hd]
  refine engineRun_of_ok ?_ ?_ ?_
  · rw [hn, wordLoop_setPhase, wordLoop_succ hf, wordLoop]
  · rw [engineWrite_fault hd, kept.fault, hf]
  · rw [(engineWrite_keeps _ _ _).phase, kept.phase, hp]

/-- Settles O57: the decoded rows by the target their address selects, the engine's write by `busWriteWith_congr`, and
the copy of one word as one turn of the loop. -/
theorem cpuAccessesAreTheBusPrimitives : Obligations.CpuAccessesAreTheBusPrimitives := by
  intro s a v
  refine ⟨?_, ?_, engineWrite_eq_busWrite, engineWrite_trigger, ?copy⟩
  · rw [decodeBus, selWrites_busSel, selAddr_busSel]
    exact exec_readInstr a s
  · rw [decodeBus, selWrites_busSel, selAddr_busSel]
    exact exec_writeInstr a v s
  case copy =>
    rintro ch x hs rfl hn hd
    have run : exec (.dmaCopy16 ch) s = .next (whenIdle (ordinalOf ch) (runCopy16 ch) s) :=
      cpuWrite_of_none hs.1
    rw [run, whenIdle_of_idle hs.2, runCopy16_one hs hn hd]

end Sys2Proof.Machine
end

section
/-! PROOFS. The statements about the encoding of 30_encoding: the decoder reads every well-formed operation back from
the bytes of its encoding and gives well-formed operations only, and the step runs the decoded operation. -/

namespace Sys2Proof.Machine

/-! ## The selector word of a byte string -/

theorem word_of_bytes (w : Word) : w.extractLsb' 8 8 ++ w.extractLsb' 0 8 = w :=
  BitVec.extractLsb'_append_extractLsb' (w := 8) (len := 8)

theorem selAddr_of_bytes (sel : BitVec 33) :
    sel.extractLsb' 24 8 ++ sel.extractLsb' 16 8 ++ sel.extractLsb' 8 8 ++ sel.extractLsb' 0 8 =
      selAddr sel := by
  have join {n k : Nat} (i : Nat) (h : k = i + 8) :
      sel.extractLsb' k n ++ sel.extractLsb' i 8 = sel.extractLsb' i (n + 8) :=
    BitVec.extractLsb'_append_extractLsb'_eq_extractLsb' h
  rw [join 16 rfl, join 8 rfl, join 0 rfl]
  rfl

/-- A selector word is read back from its bytes (30_encoding R119, log 17). -/
theorem codeOfBytes_bytes (k : Code) : codeOfBytes k.format k.bytes = .ok k := by
  cases k
  case bus sel data =>
    rw [Code.format, Code.bytes, codeOfBytes, selAddr_of_bytes, word_of_bytes]
    conv => rhs; rw [← busSel_sel sel]
    cases selWrites sel <;> rfl
  case dmaMode ch mode => rw [Code.format, Code.bytes, codeOfBytes, word_of_bytes]
  case trig ordinal => rw [Code.format, Code.bytes, codeOfBytes, word_of_bytes]
  all_goals rfl

theorem decodeBytes_bytes (c : Config) (k : Code) :
    decodeBytes c k.format k.bytes = .ok (decode c k) := by
  rw [decodeBytes, codeOfBytes_bytes]

/-! ## The catch-all rows stand for the words their tables do not list (30_encoding R105, R107, R110) -/

/-- A line of a lookup table answers `z`: by its own result or by the lines below it. -/
theorem line_eq_iff {α : Type} {p : Prop} [Decidable p] {x rest z : α} :
    (if p then x else rest) = z ↔ p ∧ x = z ∨ ¬p ∧ rest = z := by
  by_cases h : p
  · simp only [h, ↓reduceIte, true_and, not_true_eq_false, false_and, or_false]
  · simp only [h, ↓reduceIte, false_and, not_false_eq_true, true_and, false_or]

theorem dmaOp_eq_unhandled {mode : Word} :
    dmaOp mode = .unhandled ↔ mode ∉ [0x1089, 0x0009, 0x4009, 0x0089] := by
  simp only [dmaOp, line_eq_iff, reduceCtorEq, and_false, and_true, false_or, List.mem_cons,
    List.not_mem_nil, or_false, not_or]

theorem trigOp_eq_invalid {ordinal : Word} : trigOp ordinal = .invalid ↔ ordinal ∉ [1, 2, 3] := by
  simp only [trigOp, line_eq_iff, reduceCtorEq, and_false, and_true, false_or, List.mem_cons,
    List.not_mem_nil, or_false, not_or]

theorem nandOp_eq_unknown {byte : Byte} : nandOp byte = .unknown ↔ byte ∉ [0x00, 0x70, 0x90] := by
  simp only [nandOp, line_eq_iff, reduceCtorEq, and_false, and_true, false_or, List.mem_cons,
    List.not_mem_nil, or_false, not_or]
  exact ⟨fun ⟨readId, read, status⟩ => ⟨read, status, readId⟩,
    fun ⟨read, status, readId⟩ => ⟨readId, read, status⟩⟩

/-! ## The addresses of the register block without a register (45_sysreg_misc R229) -/

theorem ofStride_eq_none {n : Nat} : Channel.ofStride n = none ↔ 3 ≤ n := by
  simp only [Channel.ofStride, line_eq_iff, reduceCtorEq, and_false, and_true, false_or]
  omega

theorem ofPlace_eq_none {k : Nat} : DmaReg.ofPlace k = none ↔ 7 ≤ k := by
  simp only [DmaReg.ofPlace, line_eq_iff, reduceCtorEq, and_false, and_true, false_or]
  omega

/-- No parameter register stands at the last place of a block or past the third block (30_encoding R104). -/
theorem dmaRegAt_eq_none {d : Nat} : dmaRegAt d = none ↔ 24 ≤ d ∨ d % 8 = 7 := by
  have either : dmaRegAt d = none ↔
      Channel.ofStride (d / 8) = none ∨ DmaReg.ofPlace (d % 8) = none := by
    unfold dmaRegAt
    cases Channel.ofStride (d / 8) <;> cases DmaReg.ofPlace (d % 8) <;>
      simp only [reduceCtorEq, or_self, or_true, true_or]
  rw [either, ofStride_eq_none, ofPlace_eq_none]
  omega

/-- Between the two windows the addresses without a register are the ones R229 lists. -/
theorem selectReg_eq_none {a : Nat} (hv : ¬a ≤ Config.videoWinLast) (ha : ¬Config.audioWinFirst ≤ a) :
    selectReg a = none ↔ Config.isUnhandled a = true := by
  simp only [Config.videoWinLast, Config.audioWinFirst] at hv ha
  simp only [selectReg, line_eq_iff, reduceCtorEq, and_false, and_true, false_or, dmaRegAt_eq_none,
    Config.isUnhandled, decide_eq_true_eq]
  omega

/-! ## The target of an address in a listed range -/

theorem busTarget_video {c : Config} {a : Addr} (h : Config.inVideo a.toNat = true) :
    busTarget c a = .video := by
  obtain ⟨first, last⟩ := of_decide_eq_true h
  have block : Config.inSysreg a.toNat = true :=
    decide_eq_true ⟨first, Nat.le_trans last (by decide)⟩
  rw [busTarget_sysreg block]
  exact if_pos last

theorem busTarget_audio {c : Config} {a : Addr} (h : Config.inAudio a.toNat = true) :
    busTarget c a = .audio := by
  obtain ⟨first, last⟩ := of_decide_eq_true h
  have block : Config.inSysreg a.toNat = true :=
    decide_eq_true ⟨Nat.le_trans (by decide) first, last⟩
  have video : ¬a.toNat ≤ Config.videoWinLast := Nat.not_le.mpr (Nat.lt_of_lt_of_le (by decide) first)
  rw [busTarget_sysreg block, sysregTarget, if_neg video]
  exact if_pos first

theorem busTarget_unhandled {c : Config} {a : Addr} (h : Config.isUnhandled a.toNat = true) :
    busTarget c a = .unhandled := by
  have listed := of_decide_eq_true h
  have block : 0x7000 ≤ a.toNat ∧ a.toNat ≤ 0x7FFF := by omega
  have video : ¬a.toNat ≤ Config.videoWinLast := by rw [Config.videoWinLast]; omega
  have audio : ¬Config.audioWinFirst ≤ a.toNat := by rw [Config.audioWinFirst]; omega
  rw [busTarget_sysreg (decide_eq_true block), sysregTarget, if_neg video, if_neg audio,
    (selectReg_eq_none video audio).mpr h]

/-! ## The decoded operation is well-formed -/

/-- The addresses the rows of a target admit; a register's rows carry none. -/
def rowAdmits (c : Config) : Target → Nat → Bool
  | .video => Config.inVideo
  | .audio => Config.inAudio
  | .reg _ => fun _ => true
  | .unhandled => Config.isUnhandled
  | .iram => c.inIram
  | .irom => c.inIrom
  | .direct => c.inDirect
  | .banked => c.inBanked
  | .unmapped => c.isUnmapped

theorem rowAdmits_sysregTarget (c : Config) {a : Nat} (h : Config.inSysreg a = true) :
    rowAdmits c (sysregTarget a) a = true := by
  obtain ⟨first, last⟩ : 0x7000 ≤ a ∧ a ≤ 0x7FFF := of_decide_eq_true h
  unfold sysregTarget
  split
  · exact decide_eq_true ⟨first, ‹_›⟩
  · split
    · exact decide_eq_true ⟨‹_›, last⟩
    · split
      · rfl
      · exact (selectReg_eq_none ‹_› ‹_›).mp ‹_›

/-- The rows of the target an address selects admit the address, in whatever configuration. -/
theorem rowAdmits_busTarget (c : Config) (a : Addr) : rowAdmits c (busTarget c a) a.toNat = true := by
  rcases busTarget_cases c a with ⟨hs, e⟩ | ⟨e, hr⟩ | ⟨e, hr⟩ | ⟨e, hr⟩ | ⟨e, hr⟩ | ⟨e, hr⟩ <;> rw [e]
  · exact rowAdmits_sysregTarget c hs
  all_goals exact hr

/-- A register's rows have nothing to admit. -/
theorem regInstr_wf (c : Config) (r : Reg) :
    (regReadInstr r).wf c = true ∧ ∀ v, (regWriteInstr r v).wf c = true := by
  cases r
  case cs i => cases i <;> exact ⟨rfl, fun _ => rfl⟩
  case dma ch k => cases ch <;> cases k <;> exact ⟨rfl, fun _ => rfl⟩
  all_goals exact ⟨rfl, fun _ => rfl⟩

theorem readInstr_wf {c : Config} {t : Target} {a : Addr} (h : rowAdmits c t a.toNat = true) :
    (readInstr t a).wf c = true := by
  cases t
  case reg r => exact (regInstr_wf c r).1
  all_goals exact h

theorem writeInstr_wf {c : Config} {t : Target} {a : Addr} (v : Word)
    (h : rowAdmits c t a.toNat = true) : (writeInstr t a v).wf c = true := by
  cases t
  case reg r => exact (regInstr_wf c r).2 v
  all_goals exact h

theorem decodeBus_wf (c : Config) (sel : BitVec 33) (data : Word) :
    (decodeBus c sel data).wf c = true := by
  have admits := rowAdmits_busTarget c (selAddr sel)
  unfold decodeBus
  split
  · exact writeInstr_wf data admits
  · exact readInstr_wf admits

theorem decodeDmaMode_wf (c : Config) (ch : Channel) (mode : Word) :
    (decodeDmaMode ch mode).wf c = true := by
  unfold decodeDmaMode
  split
  case h_5 unlisted => exact decide_eq_true (dmaOp_eq_unhandled.mp unlisted)
  all_goals rfl

theorem decodeTrig_wf (c : Config) (ordinal : Word) : (decodeTrig ordinal).wf c = true := by
  unfold decodeTrig
  split
  case h_4 unlisted => exact decide_eq_true (trigOp_eq_invalid.mp unlisted)
  all_goals rfl

theorem decodeNandCmd_wf (c : Config) (byte : Byte) : (decodeNandCmd byte).wf c = true := by
  unfold decodeNandCmd
  split
  case h_4 unlisted => exact decide_eq_true (nandOp_eq_unknown.mp unlisted)
  all_goals rfl

/-- Settles O54, format by format. -/
theorem decodedOperationsAreWellFormed : Obligations.DecodedOperationsAreWellFormed := by
  intro c k
  cases k with
  | bus sel data => exact decodeBus_wf c sel data
  | dmaMode ch mode => exact decodeDmaMode_wf c ch mode
  | trig ordinal => exact decodeTrig_wf c ordinal
  | nandCmd byte => exact decodeNandCmd_wf c byte
  | reset => rfl
  | bootstrap => rfl

/-! ## Decoding inverts encoding -/

/-- Settles O52: the words are closed, so the decoder evaluates on them. -/
theorem sampleWordsDecode : Obligations.SampleWordsDecode :=
  ⟨rfl, rfl, rfl, rfl, rfl, rfl, rfl⟩

theorem decode_encRead {c : Config} {a : Addr} {t : Target} (h : busTarget c a = t) :
    decode c (encRead a) = readInstr t a := by
  rw [encRead, decode, decodeBus, selWrites_busSel, selAddr_busSel, h]
  rfl

theorem decode_encWrite {c : Config} {a : Addr} {t : Target} (h : busTarget c a = t) (v : Word) :
    decode c (encWrite a v) = writeInstr t a v := by
  rw [encWrite, decode, decodeBus, selWrites_busSel, selAddr_busSel, h]
  rfl

theorem decodeDmaMode_of_unlisted (ch : Channel) {mode : Word}
    (h : mode ∉ [0x1089, 0x0009, 0x4009, 0x0089]) : decodeDmaMode ch mode = .dmaUnhandled ch mode := by
  rw [decodeDmaMode, dmaOp_eq_unhandled.mpr h]

theorem decodeTrig_of_unlisted {ordinal : Word} (h : ordinal ∉ [1, 2, 3]) :
    decodeTrig ordinal = .trigInvalid ordinal := by
  rw [decodeTrig, trigOp_eq_invalid.mpr h]

theorem decodeNandCmd_of_unlisted {byte : Byte} (h : byte ∉ [0x00, 0x70, 0x90]) :
    decodeNandCmd byte = .nandUnknown byte := by
  rw [decodeNandCmd, nandOp_eq_unknown.mpr h]

/-- The ranged rows by the target of their address, the catch-all rows by the list their word is not on; every other
row is one selector word, on which the decoder evaluates. -/
theorem decode_encode {c : Config} {i : Instr} (hv : c.Valid) (hw : i.wf c = true) :
    decode c (encode i) = i := by
  cases i
  case videoR a => exact decode_encRead (busTarget_video hw)
  case videoW a v => exact decode_encWrite (busTarget_video hw) v
  case audioR a => exact decode_encRead (busTarget_audio hw)
  case audioW a v => exact decode_encWrite (busTarget_audio hw) v
  case sysregUnhR a => exact decode_encRead (busTarget_unhandled hw)
  case sysregUnhW a v => exact decode_encWrite (busTarget_unhandled hw) v
  case iramR a => exact decode_encRead (busTarget_iram hv hw)
  case iramW a v => exact decode_encWrite (busTarget_iram hv hw) v
  case iromR a => exact decode_encRead (busTarget_irom hv hw)
  case iromW a v => exact decode_encWrite (busTarget_irom hv hw) v
  case extwinR a => exact decode_encRead (busTarget_direct hv hw)
  case extwinW a v => exact decode_encWrite (busTarget_direct hv hw) v
  case bankwinR a => exact decode_encRead (busTarget_banked hv hw)
  case bankwinW a v => exact decode_encWrite (busTarget_banked hv hw) v
  case unmappedR a => exact decode_encRead (busTarget_unmapped hw)
  case unmappedW a v => exact decode_encWrite (busTarget_unmapped hw) v
  case dmaUnhandled ch mode => exact decodeDmaMode_of_unlisted ch (of_decide_eq_true hw)
  case trigInvalid ordinal => exact decodeTrig_of_unlisted (of_decide_eq_true hw)
  case nandUnknown byte => exact decodeNandCmd_of_unlisted (of_decide_eq_true hw)
  all_goals rfl

/-- Settles O53: the bytes give back the selector word, and the selector word the operation. -/
theorem decodeInvertsEncode : Obligations.DecodeInvertsEncode := by
  intro c i hv hw
  rw [decodeBytes_bytes, decode_encode hv hw]

/-! ## The step -/

/-- Settles O58, branch by branch of the step. -/
theorem stepRunsTheDecodedOperation : Obligations.StepRunsTheDecodedOperation := by
  refine fun s => ⟨fun hv => ⟨fun x rest hx => ?run, fun hx => ?idle⟩, fun hv => if_neg hv⟩
  case run =>
    rw [step, if_pos hv, hx]
    rfl
  case idle => rw [step, if_pos hv, hx]

end Sys2Proof.Machine
end

section
/-! PROOFS. The statements about the chip-select space of 40_chipselect: the layout as a function of the five
registers, the lookup of an offset in it, the registers' own accesses, and the direct window onto the slots. -/

namespace Sys2Proof.Machine

/-! ## The sizes -/

/-- The size of a region as arithmetic on its register (40_chipselect R132). -/
theorem csSize_eq (cs : PerRegion Word) (i : CsIndex) :
    csSize cs i = ((cs.get i).toNat / 256 + 1) * 0x10000 := by
  rw [csSize, regionSize, highByte_toNat, Config.csUnit]

theorem csSize_bounds (cs : PerRegion Word) (i : CsIndex) :
    0x10000 ≤ csSize cs i ∧ csSize cs i ≤ 0x1000000 := by
  have := (cs.get i).isLt
  rw [csSize_eq]
  omega

/-- Bits 7:0 of a register do not enter its region's size (40_chipselect R140). -/
theorem csSize_congr {cs cs' : PerRegion Word} {i : CsIndex}
    (h : (cs.get i).toNat / 256 = (cs'.get i).toNat / 256) : csSize cs i = csSize cs' i := by
  rw [csSize_eq, csSize_eq, h]

theorem csSize_set_other (cs : PerRegion Word) {i j : CsIndex} (v : Word) (h : j ≠ i) :
    csSize (cs.set i v) j = csSize cs j :=
  congrArg regionSize (PerRegion.get_set_other cs i j v h)

/-! ## The starts -/

/-- The regions lie end to end (40_chipselect R132). -/
theorem csStart_next (cs : PerRegion Word) {i j : CsIndex} (h : regionNumber j = regionNumber i + 1) :
    csStart cs j = csEnd cs i := by
  revert h
  cases i <;> cases j <;> simp [regionNumber, csEnd, csStart]

theorem csTotal_eq_sum (cs : PerRegion Word) :
    csTotal cs = csSize cs .cs0 + csSize cs .cs1 + csSize cs .cs2 + csSize cs .cs3 + csSize cs .cs4 := rfl

/-- Where a region starts is decided by the sizes of the earlier ones. -/
theorem csStart_congr {cs cs' : PerRegion Word} {j : CsIndex}
    (h : ∀ k, regionNumber k < regionNumber j → csSize cs k = csSize cs' k) :
    csStart cs j = csStart cs' j := by
  cases j <;> simp (disch := decide) only [csStart, h]

/-- A write leaves the regions up to the written one where they start (40_chipselect R130). -/
theorem csStart_set_of_le (cs : PerRegion Word) {i j : CsIndex} (v : Word)
    (h : regionNumber j ≤ regionNumber i) : csStart (cs.set i v) j = csStart cs j :=
  csStart_congr fun k hk => csSize_set_other cs v (by rintro rfl; omega)

/-- A write moves every later region by the difference in size (40_chipselect R130). -/
theorem csStart_set_of_lt (cs : PerRegion Word) {i j : CsIndex} (v : Word)
    (h : regionNumber i < regionNumber j) :
    csStart (cs.set i v) j + csSize cs i = csStart cs j + csSize (cs.set i v) i := by
  have other (k : CsIndex) (hk : k ≠ i) := csSize_set_other cs v hk
  revert h
  cases i <;> cases j <;> simp (disch := decide) only [regionNumber, csStart, other] <;> omega

/-! ## The lookup -/

/-- An offset below the total lies in some region. -/
theorem covered_of_lt_csTotal {cs : PerRegion Word} {o : Nat} (h : o < csTotal cs) :
    ∃ i r, r < csSize cs i ∧ o = csStart cs i + r := by
  have within (i : CsIndex) (lo : csStart cs i ≤ o) (hi : o < csEnd cs i) :
      ∃ i r, r < csSize cs i ∧ o = csStart cs i + r :=
    ⟨i, o - csStart cs i, Nat.sub_lt_left_of_lt_add lo hi, (Nat.add_sub_cancel' lo).symm⟩
  have next (i j : CsIndex) (hij : regionNumber j = regionNumber i + 1) (past : ¬o < csEnd cs i) :
      csStart cs j ≤ o := csStart_next cs hij ▸ Nat.le_of_not_lt past
  by_cases h0 : o < csEnd cs .cs0
  · exact within .cs0 (Nat.zero_le o) h0
  by_cases h1 : o < csEnd cs .cs1
  · exact within .cs1 (next .cs0 .cs1 rfl h0) h1
  by_cases h2 : o < csEnd cs .cs2
  · exact within .cs2 (next .cs1 .cs2 rfl h1) h2
  by_cases h3 : o < csEnd cs .cs3
  · exact within .cs3 (next .cs2 .cs3 rfl h2) h3
  · exact within .cs4 (next .cs3 .cs4 rfl h3) h

theorem csLookup_eq_none_iff {cs : PerRegion Word} {o : Nat} : csLookup cs o = none ↔ csTotal cs ≤ o := by
  refine ⟨fun h => Nat.le_of_not_lt fun lt => ?_, csLookup_of_beyond⟩
  obtain ⟨i, r, hr, rfl⟩ := covered_of_lt_csTotal lt
  simp [csLookup_of_covered cs i hr] at h

theorem csLookup_eq_some_iff {cs : PerRegion Word} {o r : Nat} {i : CsIndex} :
    csLookup cs o = some (i, r) ↔ r < csSize cs i ∧ o = csStart cs i + r := by
  refine ⟨fun h => ?found, fun ⟨hr, ho⟩ => ho ▸ csLookup_of_covered cs i hr⟩
  case found =>
    have lt : o < csTotal cs := Nat.lt_of_not_le fun le => by simp [csLookup_of_beyond le] at h
    obtain ⟨j, q, hq, rfl⟩ := covered_of_lt_csTotal lt
    rw [csLookup_of_covered cs j hq] at h
    cases h
    exact ⟨hq, rfl⟩

/-- The same lookup, by the ends of the region's span. -/
theorem csLookup_eq_some_iff_span {cs : PerRegion Word} {o r : Nat} {i : CsIndex} :
    csLookup cs o = some (i, r) ↔ csStart cs i ≤ o ∧ o < csEnd cs i ∧ r = o - csStart cs i := by
  rw [csLookup_eq_some_iff, csEnd]
  omega

/-- The lookup follows from the five sizes. -/
theorem csLookup_congr {cs cs' : PerRegion Word} (h : ∀ i, csSize cs i = csSize cs' i) (o : Nat) :
    csLookup cs o = csLookup cs' o := by
  have starts (i : CsIndex) : csStart cs i = csStart cs' i := csStart_congr fun k _ => h k
  refine Option.ext fun ⟨i, r⟩ => ?_
  rw [csLookup_eq_some_iff, csLookup_eq_some_iff, starts, h]

/-- Settles O4, by the two ways a lookup can end. -/
theorem lookupFindsTheCoveringRegion : Obligations.LookupFindsTheCoveringRegion :=
  fun _ _ => ⟨fun _ _ => csLookup_eq_some_iff_span, csLookup_eq_none_iff⟩

/-- Settles O5: registers that agree in bits 15:8 give the same sizes. -/
theorem lookupIgnoresLowControlBits : Obligations.LookupIgnoresLowControlBits :=
  fun _ _ h => csLookup_congr fun i => csSize_congr (h i)

/-- Settles O3: the total's range is that of the five sizes together. -/
theorem layoutFollowsFromRegisters : Obligations.LayoutFollowsFromRegisters := by
  intro cs
  have bounds := csSize_bounds cs
  have total : 0x50000 ≤ csTotal cs ∧ csTotal cs ≤ 0x5000000 := by
    have := bounds .cs0; have := bounds .cs1; have := bounds .cs2
    have := bounds .cs3; have := bounds .cs4
    rw [csTotal_eq_sum]
    omega
  exact ⟨fun i => ⟨csSize_eq cs i, bounds i⟩, rfl, fun _ _ => csStart_next cs, fun _ => rfl, rfl,
    csTotal_eq_sum cs, total.1, total.2, fun _ _ lo hi => csLookup_eq_some_iff_span.mpr ⟨lo, hi, rfl⟩⟩

/-! ## The registers -/

theorem PerRegion.get_set {α : Type} (p : PerRegion α) (i j : CsIndex) (x : α) :
    (p.set i x).get j = if j = i then x else p.get j := by
  split
  case isTrue h => rw [h, PerRegion.get_set_same]
  case isFalse h => exact PerRegion.get_set_other p i j x h

@[simp] theorem PerRegion.set_get {α : Type} (p : PerRegion α) (i : CsIndex) : p.set i (p.get i) = p := by
  cases i <;> rfl

/-- A write that keeps bits 15:8 of its register keeps every size. -/
theorem csSize_set_of_code {cs : PerRegion Word} {i : CsIndex} {v : Word}
    (h : v.toNat / 256 = (cs.get i).toNat / 256) (j : CsIndex) : csSize (cs.set i v) j = csSize cs j := by
  by_cases hj : j = i
  · subst hj
    exact csSize_congr (by rw [PerRegion.get_set_same, h])
  · exact csSize_set_other cs v hj

/-- Settles O1: the row is the register write; the layout after it, region by region. -/
theorem chipSelectWriteStoresWord : Obligations.ChipSelectWriteStoresWord := by
  intro i v s hf
  have written : exec (regWriteInstr (.cs i) v) s = .next (s.setCs i v) := by
    rw [exec_regWriteInstr, cpuWrite_of_none hf, regWrite]
  exact ⟨written, fun j => PerRegion.get_set s.cs i j v,
    fun _ => ⟨csStart_set_of_le s.cs v, csStart_set_of_lt s.cs v, csSize_set_other s.cs v⟩,
    fun h => csLookup_congr (csSize_set_of_code h), PerRegion.set_get s.cs i⟩

/-- Settles O2: the row is the register read, which answers what the register holds. -/
theorem chipSelectReadReturnsRegister : Obligations.ChipSelectReadReturnsRegister := by
  intro i s hf
  rw [exec_regReadInstr]
  exact cpuRead_of_eq hf rfl

/-! ## The slots -/

/-- A store and a ROM are read alike (40_chipselect R138). -/
theorem slotRead_of_memory {s : State} {i : CsIndex} {m : Memory}
    (h : s.slots.get i = .store m ∨ s.slots.get i = .rom m) (r : Nat) :
    slotRead i r s = (m.readWord r, s) := by
  obtain h | h := h <;> rw [slotRead, h]

theorem slotRead_of_device {s : State} {i : CsIndex} {seen : List PortAccess}
    (h : s.slots.get i = .device seen) (r : Nat) :
    slotRead i r s = (Config.csReply i seen r, s.setSlot i (.device (seen ++ [.read r]))) := by
  rw [slotRead, h]

theorem slotWrite_of_rom {s : State} {i : CsIndex} {m : Memory} (h : s.slots.get i = .rom m)
    (r : Nat) (v : Word) : slotWrite i r v s = s := by
  rw [slotWrite, h]

theorem slotWrite_of_device {s : State} {i : CsIndex} {seen : List PortAccess}
    (h : s.slots.get i = .device seen) (r : Nat) (v : Word) :
    slotWrite i r v s = s.setSlot i (.device (seen ++ [.write r v])) := by
  rw [slotWrite, h]

/-! ## The direct window onto the slots -/

/-- The address is `CS_BASE + start_i + r`, inside region `i` (40_chipselect R138). -/
structure DirectlyNames (s : State) (a : Addr) (i : CsIndex) (r : Nat) : Prop where
  address : a.toNat = s.cfg.csBase + csStart s.cs i + r
  inside : r < csSize s.cs i

theorem DirectlyNames.lookup {s : State} {a : Addr} {i : CsIndex} {r : Nat} (h : DirectlyNames s a i r) :
    csLookup s.cs (a.toNat - s.cfg.csBase) = some (i, r) :=
  csLookup_eq_some_iff.mpr ⟨h.inside, by have := h.address; omega⟩

theorem DirectlyNames.read {s : State} {a : Addr} {i : CsIndex} {r : Nat} (h : DirectlyNames s a i r) :
    directRead a s = slotRead i r s :=
  csSpaceRead_of_some h.lookup

theorem DirectlyNames.write {s : State} {a : Addr} {i : CsIndex} {r : Nat} (h : DirectlyNames s a i r)
    (v : Word) : directWrite a v s = slotWrite i r v s :=
  csSpaceWrite_of_some h.lookup

/-- Settles O6: inside region `i` by what backs the slot, from the total on by the default response. -/
theorem directWindowReadReachesItsSlot : Obligations.DirectWindowReadReachesItsSlot := by
  intro s a hf hbase
  refine ⟨fun i r ha hr => ?covered, fun ho => ?beyond⟩
  case covered =>
    have named : DirectlyNames s a i r := ⟨ha, hr⟩
    exact ⟨fun m hm => cpuRead_of_eq hf (named.read.trans (slotRead_of_memory hm r)),
      fun _ hd => cpuRead_of_eq hf (named.read.trans (slotRead_of_device hd r))⟩
  case beyond =>
    exact cpuRead_of_default hf (directRead_of_beyond (by omega) (by omega))

/-- Settles O7: as for the read, with the laws of memory for the word a store takes. -/
theorem directWindowWriteReachesItsSlot : Obligations.DirectWindowWriteReachesItsSlot := by
  intro s a v hf hbase
  refine ⟨fun i r ha hr => ?covered, fun ho => ?beyond⟩
  case covered =>
    have named : DirectlyNames s a i r := ⟨ha, hr⟩
    refine ⟨fun m hm hw => ?store, fun m hm => ?rom, fun seen hd => ?device⟩
    case store =>
      exact ⟨m.writeWord r v, cpuWrite_of_eq hf (directWrite_of_store ha hr hm), Memory.writeWord_wf hw r v,
        Memory.readWord_writeWord_same hw r v, fun _ => Memory.readByte_writeWord_other m v⟩
    case rom => exact cpuWrite_of_eq hf ((named.write v).trans (slotWrite_of_rom hm r v))
    case device => exact cpuWrite_of_eq hf ((named.write v).trans (slotWrite_of_device hd r v))
  case beyond =>
    exact cpuWrite_of_default hf (directWrite_of_beyond (by omega) (by omega))

theorem csBase_le (c : Config) : c.csBase ≤ 0x30000 := by
  unfold Config.csBase
  split <;> decide

/-- The size code 0 is one unit: `0x0047` gives slot 0 the offsets below `0x10000` (40_chipselect R141). -/
theorem csSize_0x0047 : csSize ⟨0x0047, 0, 0, 0, 0⟩ .cs0 = 0x10000 := by decide

/-- Settles O8: the first address is the last word of region 0, the second the first of region 1. -/
theorem adjacentAddressesCrossSlots : Obligations.AdjacentAddressesCrossSlots := by
  intro s m n hf hcs hm hn
  have hbase := csBase_le s.cfg
  have last : DirectlyNames s (BitVec.ofNat 32 (s.cfg.csBase + 0xFFFF)) .cs0 0xFFFF := by
    refine ⟨addr_toNat (by omega), ?_⟩
    rw [hcs, csSize_0x0047]
    decide
  have first : DirectlyNames s (BitVec.ofNat 32 (s.cfg.csBase + 0x10000)) .cs1 0 := by
    refine ⟨?_, Nat.lt_of_lt_of_le (by decide) (csSize_bounds s.cs .cs1).1⟩
    rw [addr_toNat (by omega), hcs, csStart, csSize_0x0047, Nat.add_zero]
  exact ⟨cpuRead_of_eq hf (last.read.trans (slotRead_of_memory (.inl hm) _)),
    cpuRead_of_eq hf (first.read.trans (slotRead_of_memory (.inl hn) _))⟩

end Sys2Proof.Machine
end

section
/-! PROOFS. The statements about the bank switch and the banked window of 41_bankwindow: the register's own accesses,
the translation as arithmetic, and the window onto the slots. -/

namespace Sys2Proof.Machine

/-! ## The register -/

/-- Settles O9: the write is the register's update, the read answers what the register holds. -/
theorem bankSwitchStoresAndReturns : Obligations.BankSwitchStoresAndReturns :=
  fun v _ hf => ⟨cpuWrite_of_none (f := (State.setBanksw · v)) hf, cpuRead_of_none hf⟩

/-! ## The translation -/

/-- The translation as arithmetic on the register (41_bankwindow R152). -/
theorem bankTranslate_eq (c : Config) (b : Word) (o : Nat) :
    bankTranslate c b o = (o : Int) + (b.toNat % 64 : Nat) * 0x200000 - (c.csBase : Int) := by
  rw [bankTranslate, bankIndex_toNat, Config.bankStride, Config.bankXlateBase]
  omega

/-- One stride already exceeds `CS_BASE`, so only bank 0 reaches below it (41_bankwindow R155). -/
theorem bankTranslate_neg_iff (c : Config) (b : Word) (o : Nat) :
    bankTranslate c b o < 0 ↔ b.toNat % 64 = 0 ∧ o < c.csBase := by
  have := csBase_le c
  rw [bankTranslate_eq]
  omega

/-- Settles O10: the differences are those of the arithmetic form. -/
theorem bankTranslationIsAShift : Obligations.BankTranslationIsAShift := by
  refine fun c b b' o o' => ⟨bankTranslate_eq c b o, ?offsets, ?banks, bankTranslate_neg_iff c b o⟩
  case offsets =>
    rw [bankTranslate_eq, bankTranslate_eq]
    omega
  case banks =>
    rw [bankTranslate_eq, bankTranslate_eq]
    omega

/-! ## The banked window onto the slots -/

theorem slotWrite_of_store {s : State} {i : CsIndex} {m : Memory} (h : s.slots.get i = .store m)
    (r : Nat) (v : Word) : slotWrite i r v s = s.setSlot i (.store (m.writeWord r v)) := by
  rw [slotWrite, h]

/-- In the window, a translation that is an offset is an access to the chip-select space there (20_memory R70). -/
theorem bankedRead_of_nat {s : State} {a : Addr} {o t : Nat} (ha : a.toNat = s.cfg.bankWinBase.toNat + o)
    (ht : bankTranslate s.cfg s.banksw o = t) : bankedRead a s = csSpaceRead t s := by
  rw [bankedRead, ha, Nat.add_sub_cancel_left, bankRead_of_nat ht]

theorem bankedWrite_of_nat {s : State} {a : Addr} {v : Word} {o t : Nat}
    (ha : a.toNat = s.cfg.bankWinBase.toNat + o) (ht : bankTranslate s.cfg s.banksw o = t) :
    bankedWrite a v s = csSpaceWrite t v s := by
  rw [bankedWrite, ha, Nat.add_sub_cancel_left, bankWrite_of_nat ht]

/-- Settles O11: a negative translation and one from the total on by the default response, one inside region `i` by
what backs the slot. -/
theorem bankedReadTranslates : Obligations.BankedReadTranslates := by
  refine fun s a o hf ha => ⟨fun neg => ?negative, fun i r ht hr => ?covered, fun t ht beyond => ?beyond⟩
  case negative => exact cpuRead_of_default hf (bankedRead_of_neg ha neg)
  case covered =>
    have reached : bankedRead a s = slotRead i r s :=
      (bankedRead_of_nat ha ht).trans (csSpaceRead_of_some (csLookup_of_covered s.cs i hr))
    exact ⟨fun m hm => cpuRead_of_eq hf (reached.trans (slotRead_of_memory hm r)),
      fun seen hd => cpuRead_of_eq hf (reached.trans (slotRead_of_device hd r))⟩
  case beyond =>
    have missed := csSpaceRead_of_none (csLookup_of_beyond beyond)
    exact cpuRead_of_default hf ((bankedRead_of_nat ha ht).trans missed)

/-- Settles O12: as for the read, with the laws of memory for the word a store takes. -/
theorem bankedWriteTranslates : Obligations.BankedWriteTranslates := by
  refine fun s a v o hf ha => ⟨fun neg => ?negative, fun i r ht hr => ?covered, fun t ht beyond => ?beyond⟩
  case negative => exact cpuWrite_of_default hf (bankedWrite_of_neg ha neg)
  case covered =>
    have reached : bankedWrite a v s = slotWrite i r v s :=
      (bankedWrite_of_nat ha ht).trans (csSpaceWrite_of_some (csLookup_of_covered s.cs i hr))
    refine ⟨fun m hm hw => ?store, fun m hm => ?rom, fun seen hd => ?device⟩
    case store =>
      exact ⟨m.writeWord r v, cpuWrite_of_eq hf (reached.trans (slotWrite_of_store hm r v)),
        Memory.writeWord_wf hw r v, Memory.readWord_writeWord_same hw r v,
        fun _ => Memory.readByte_writeWord_other m v⟩
    case rom => exact cpuWrite_of_eq hf (reached.trans (slotWrite_of_rom hm r v))
    case device => exact cpuWrite_of_eq hf (reached.trans (slotWrite_of_device hd r v))
  case beyond =>
    have missed := csSpaceWrite_of_none (v := v) (csLookup_of_beyond beyond)
    exact cpuWrite_of_default hf ((bankedWrite_of_nat ha ht).trans missed)

end Sys2Proof.Machine
end

section
/-! PROOFS. The statements about the system DMA engine of 42_dma: its registers, the trigger and the rows it runs, what
a transfer within internal RAM or into the block's registers leaves, and where a transfer stops. -/

namespace Sys2Proof.Machine

/-! ## The registers -/

theorem DmaRegs.get_set (d : DmaRegs) (ch ch' : Channel) (k k' : DmaReg) (v : Word) :
    (d.set ch k v).get ch' k' = if ch' = ch ∧ k' = k then v else d.get ch' k' := by
  split
  case isTrue h => rw [h.1, h.2, DmaRegs.get_set_same]
  case isFalse h => exact DmaRegs.get_set_other d ch ch' k k' v h

theorem DmaRegs.get_clear (d : DmaRegs) (ch ch' : Channel) (k : DmaReg) :
    (d.clear ch).get ch' k = if ch' = ch then 0 else d.get ch' k := by
  split
  case isTrue h => rw [h, DmaRegs.get_clear_same]
  case isFalse h => exact DmaRegs.get_clear_other d ch ch' k h

/-- Settles O26: the two rows are the register's write and read. -/
theorem dmaParametersStoreAndReturn : Obligations.DmaParametersStoreAndReturn := by
  intro ch k v s hf
  have written : exec (regWriteInstr (.dma ch k) v) s = .next (s.setDma ch k v) :=
    (exec_regWriteInstr (.dma ch k) v s).trans (cpuWrite_of_eq hf rfl)
  have read : exec (regReadInstr (.dma ch k)) s = .next (s.setReadData (s.dma.get ch k)) :=
    (exec_regReadInstr (.dma ch k) s).trans (cpuRead_of_eq hf rfl)
  exact ⟨written, fun ch' k' => DmaRegs.get_set s.dma ch ch' k k' v, read⟩

/-- Settles O27: the two rows are the register's write and read. -/
theorem sourceTypeIsPlainStorage : Obligations.SourceTypeIsPlainStorage :=
  fun v s hf => ⟨(exec_regWriteInstr .dmaSrcType v s).trans (cpuWrite_of_eq hf rfl),
    (exec_regReadInstr .dmaSrcType s).trans (cpuRead_of_eq hf rfl)⟩

/-- A word that covers the mask of the three channels has their three bits set. -/
theorem channelBit_of_mask {w : Word} (h : w &&& 7 = 7) {n : Nat} (hn : n < 3) : w.getLsbD n = true := by
  have bit : (7 : Word).getLsbD n = true := by
    have : ∀ m < 3, (7 : Word).getLsbD m = true := by decide
    exact this n hn
  rw [← h, BitVec.getLsbD_and, Bool.and_eq_true] at bit
  exact bit.1

/-- Settles O28: the row reads the configuration's constant, whose mask the constraints fix. -/
theorem statusAlwaysReportsReady : Obligations.StatusAlwaysReportsReady := by
  intro s hf
  refine ⟨(exec_regReadInstr .dmaStatus s).trans (cpuRead_of_eq hf rfl), fun hv n hn => ?_⟩
  obtain ⟨-, -, -, ready, -⟩ := hv
  exact channelBit_of_mask ready hn

/-- Settles O29: each quantity is `quantity28_eq` of its two registers. -/
theorem latchAssemblesTwentyEightBits : Obligations.LatchAssemblesTwentyEightBits :=
  fun _ _ => ⟨rfl, quantity28_eq .., quantity28_eq .., quantity28_eq ..⟩

/-! ## The trigger write -/

/-- In a ready state the nested-trigger test lets an operation run. -/
theorem cpuWrite_whenIdle {s : State} (hs : s.Ready) (d : Word) (f : State → State) :
    cpuWrite (whenIdle d f) s = .next (f s) :=
  cpuWrite_of_eq hs.1 (whenIdle_of_idle hs.2)

/-- Settles O32: outside the three ordinals the trigger decodes to the invalid row, which raises the fault. -/
theorem badTriggerFaults : Obligations.BadTriggerFaults := by
  intro s d hs h1 h2 h3
  have invalid : trigOp d = .invalid := trigOp_eq_invalid.mpr <| by
    simp only [List.mem_cons, List.not_mem_nil, or_false, not_or]
    exact ⟨h1, h2, h3⟩
  have written : exec (.dmatrigW d) s = _ := cpuWrite_whenIdle hs d _
  rw [invalid] at written
  exact ⟨written, cpuWrite_whenIdle hs d (raise (.dmaBadTrigger d))⟩

/-- Settles O34: the nested-trigger test comes before the decoding of the ordinal. -/
theorem triggerInsideTransferFaults : Obligations.TriggerInsideTransferFaults :=
  fun _ _ hf hp => cpuWrite_of_eq hf (whenIdle_of_not_idle hp)

theorem trigOp_ordinalOf (ch : Channel) : trigOp (ordinalOf ch) = .channel ch := by
  cases ch <;> rfl

/-- In a ready state both triggers of a channel run it (42_dma R165). -/
theorem exec_trigger {s : State} (hs : s.Ready) {ch : Channel} {i : Instr} (hi : i ∈ triggers ch) :
    exec i s = .next (runChannel ch s) := by
  simp only [triggers, List.mem_cons, List.not_mem_nil, or_false] at hi
  rcases hi with rfl | rfl
  case inl =>
    have written : exec (.dmatrigW (ordinalOf ch)) s = _ := cpuWrite_whenIdle hs (ordinalOf ch) _
    rwa [trigOp_ordinalOf] at written
  case inr => cases ch <;> exact cpuWrite_whenIdle hs _ _

/-- In a ready state the row of a channel's mode word runs the channel (42_dma R167): a run of the engine overwrites the
phase Triggered, in which the two differ. -/
theorem exec_decodeDmaMode {s : State} (hs : s.Ready) (ch : Channel) :
    exec (decodeDmaMode ch (s.dma.get ch .mode)) s = .next (runChannel ch s) := by
  unfold decodeDmaMode runChannel
  cases dmaOp (s.dma.get ch .mode) <;> exact cpuWrite_whenIdle hs _ _

/-- A trigger of a channel is the row its mode word selects. -/
theorem exec_trigger_eq_row {s : State} (hs : s.Ready) {ch : Channel} {i : Instr} (hi : i ∈ triggers ch) :
    exec i s = exec (decodeDmaMode ch (s.dma.get ch .mode)) s :=
  (exec_trigger hs hi).trans (exec_decodeDmaMode hs ch).symm

theorem exec_starter {s : State} (hs : s.Ready) {ch : Channel} {row i : Instr} (hi : i ∈ starters s ch row) :
    exec i s = exec row s := by
  rcases List.mem_cons.mp hi with rfl | hi
  · rfl
  · split at hi
    case isTrue h => rw [exec_trigger_eq_row hs hi, h]
    case isFalse => cases hi

/-- Settles O30: both triggers run the row of the channel's mode word, and the decoder is the table R105. -/
theorem triggerRunsTheModeOfItsChannel : Obligations.TriggerRunsTheModeOfItsChannel := by
  intro s hs
  refine ⟨fun ch i hi => exec_trigger_eq_row hs hi, rfl, rfl, rfl, fun ch => by cases ch <;> rfl, ?table⟩
  case table =>
    intro ch mode
    unfold decodeDmaMode dmaOp
    by_cases nand8 : mode = 0x1089
    · rw [if_pos nand8, if_pos nand8]
    by_cases copy16 : mode = 0x0009
    · rw [if_neg nand8, if_pos copy16, if_neg nand8, if_pos copy16]
    by_cases copy16b : mode = 0x4009
    · rw [if_neg nand8, if_neg copy16, if_pos copy16b, if_neg nand8, if_neg copy16, if_pos copy16b]
    by_cases fill16 : mode = 0x0089
    · rw [if_neg nand8, if_neg copy16, if_neg copy16b, if_pos fill16, if_neg nand8, if_neg copy16,
        if_neg copy16b, if_pos fill16]
    · rw [if_neg nand8, if_neg copy16, if_neg copy16b, if_neg fill16, if_neg nand8, if_neg copy16,
        if_neg copy16b, if_neg fill16]

/-! ## The mode words of no row -/

/-- Settles O40: the transfer of an unlisted mode word is the event alone. -/
theorem unhandledModeMovesNothing : Obligations.UnhandledModeMovesNothing := by
  intro s ch mode hs
  refine ⟨?row, fun ch' k => DmaRegs.get_clear s.dma ch ch' k, ?trigger⟩
  case row =>
    have run : exec (.dmaUnhandled ch mode) s = .next (runUnhandled ch mode s) := cpuWrite_whenIdle hs _ _
    rw [run, runUnhandled, engineRun_of_ok (u := s.addLog _) rfl hs.1 hs.2]
    rfl
  case trigger =>
    rintro rfl h1 h2 h3 h4 i hi
    have unlisted : s.dma.get ch .mode ∉ [0x1089, 0x0009, 0x4009, 0x0089] := by
      simp only [List.mem_cons, List.not_mem_nil, or_false, not_or]
      exact ⟨h1, h2, h3, h4⟩
    rw [exec_trigger_eq_row hs hi, decodeDmaMode_of_unlisted ch unlisted]

/-! ## Every run completes -/

/-- The only fault a state may hold is the engine's own nested trigger. -/
def NestedOnly (s : State) : Prop := ∀ r, s.fault = some r → ∃ d, r = .dmaNestedTrigger d

theorem NestedOnly.of_eq {s t : State} (h : t.fault = s.fault) (hs : NestedOnly s) : NestedOnly t :=
  fun r hr => hs r (h.symm.trans hr)

theorem NestedOnly.addLog {s : State} (hs : NestedOnly s) (e : Event) : NestedOnly (s.addLog e) := hs

theorem NestedOnly.engineWrite {s : State} (hs : NestedOnly s) (a : Addr) (v : Word) :
    NestedOnly (engineWrite a v s) := by
  by_cases h : busTarget s.cfg a = .reg .dmaStatus
  · rw [engineWrite_trigger h]
    rintro r ⟨⟩
    exact ⟨v, rfl⟩
  · exact hs.of_eq (engineWrite_fault h)

theorem NestedOnly.wordLoop {s : State} (hs : NestedOnly s) (step n src dst : Nat) :
    NestedOnly (wordLoop step n src dst s) :=
  wordLoop_induct NestedOnly (fun a t h => h.of_eq (busRead_keeps a t).fault) (fun a v _ h => h.engineWrite a v)
    step n src dst s hs

theorem NestedOnly.nandLoop {s : State} (hs : NestedOnly s) (n dst : Nat) : NestedOnly (nandLoop n dst s) :=
  nandLoop_induct NestedOnly (fun t h => h.of_eq (nandDataRead_keeps t).fault) (fun a v _ h => h.engineWrite a v)
    n dst s hs

/-- How a run on channel `ch` leaves the machine: Idle, the channel zero unless the nested trigger ended it
(42_dma R173, R175, R176). -/
structure RunEnds (ch : Channel) (t : State) : Prop where
  phase : t.phase = .idle
  cleared : t.fault = none → ∀ k, t.dma.get ch k = 0
  nested : NestedOnly t

theorem engineRun_ends {body : Transfer → State → State} (hb : ∀ x u, NestedOnly u → NestedOnly (body x u))
    (ch : Channel) {s : State} (hs : s.Ready) : RunEnds ch (engineRun ch body s) := by
  have nested : NestedOnly (body (latch s.dma ch) (s.setPhase .copying)) :=
    hb _ _ fun r hr => by cases hs.1.symm.trans hr
  unfold engineRun
  dsimp only
  split
  next r hr => exact ⟨rfl, fun h => (by cases hr.symm.trans h), nested⟩
  next => exact ⟨rfl, fun _ k => DmaRegs.get_clear_same _ ch k, nested⟩

theorem exec_modeRow_ends {s : State} (hs : s.Ready) (ch : Channel) (mode : Word) {i : Instr}
    (hi : i ∈ modeRows ch mode) : ∃ t, exec i s = .next t ∧ RunEnds ch t := by
  simp only [modeRows, List.mem_cons, List.not_mem_nil, or_false] at hi
  rcases hi with rfl | rfl | rfl | rfl | rfl
  case inl => exact ⟨_, cpuWrite_whenIdle hs _ _, engineRun_ends (fun _ _ h => h.nandLoop _ _) ch hs⟩
  case inr.inr.inr.inr => exact ⟨_, cpuWrite_whenIdle hs _ _, engineRun_ends (fun _ _ h => h.addLog _) ch hs⟩
  all_goals exact ⟨_, cpuWrite_whenIdle hs _ _, engineRun_ends (fun _ _ h => h.wordLoop _ _ _ _) ch hs⟩

theorem decodeDmaMode_mem_modeRows (ch : Channel) (mode : Word) : decodeDmaMode ch mode ∈ modeRows ch mode := by
  unfold decodeDmaMode
  cases dmaOp mode <;> simp [modeRows]

/-- Settles O31: a trigger is a mode row, and every mode row is a run of the engine. -/
theorem everyTriggerCompletesAndClears : Obligations.EveryTriggerCompletesAndClears := by
  intro s ch mode hs i hi
  have ends : ∃ t, exec i s = .next t ∧ RunEnds ch t := by
    rcases List.mem_append.mp hi with hi | hi
    · rw [exec_trigger_eq_row hs hi]
      exact exec_modeRow_ends hs ch _ (decodeDmaMode_mem_modeRows ch _)
    · exact exec_modeRow_ends hs ch mode hi
  obtain ⟨t, run, phase, cleared, nested⟩ := ends
  exact ⟨t, run, phase, cleared, nested⟩

/-! ## The rows of the transfers, each as its loop -/

/-- What follows a transfer: the channel cleared, unless a fault ended it (42_dma R173, 60_exceptions R243). -/
def finishRun (ch : Channel) (t : State) : State :=
  match t.fault with
  | some _ => t
  | none => t.clearDma ch

theorem finishRun_of_ok {ch : Channel} {t : State} (h : t.fault = none) : finishRun ch t = t.clearDma ch := by
  rw [finishRun, h]

theorem finishRun_of_fault {ch : Channel} {t : State} {r : Fault} (h : t.fault = some r) : finishRun ch t = t := by
  rw [finishRun, h]

/-- The phase of a run is seen by nothing: a transfer that looks at no phase may as well run in Idle. -/
theorem engineRun_eq_finishRun {ch : Channel} {body : Transfer → State → State} {s : State}
    (blind : body (latch s.dma ch) (s.setPhase .copying) = (body (latch s.dma ch) s).setPhase .copying)
    (idle : (body (latch s.dma ch) s).phase = .idle) :
    engineRun ch body s = finishRun ch (body (latch s.dma ch) s) := by
  unfold engineRun finishRun
  rw [blind]
  generalize body (latch s.dma ch) s = t at idle
  cases t
  cases idle
  dsimp only [State.setPhase_fault]
  split <;> rfl

theorem exec_wordRow {s : State} {ch : Channel} {x : Transfer} {q : Nat × Instr} (hs : s.Ready)
    (hx : x = latch s.dma ch) (hq : q ∈ wordRows ch) :
    exec q.2 s = .next (finishRun ch (wordLoop q.1 x.len x.src x.dst s)) := by
  have run : exec q.2 s = .next (engineRun ch (fun x => wordLoop q.1 x.len x.src x.dst) s) := by
    simp only [wordRows, List.mem_cons, List.not_mem_nil, or_false] at hq
    rcases hq with rfl | rfl | rfl <;> exact cpuWrite_whenIdle hs _ _
  rw [run, hx, engineRun_eq_finishRun (wordLoop_setPhase ..) ((wordLoop_keeps ..).phase.trans hs.2)]

theorem exec_nandRow {s : State} {ch : Channel} {x : Transfer} (hs : s.Ready) (hx : x = latch s.dma ch) :
    exec (.dmaNand8 ch) s = .next (finishRun ch (nandLoop (x.len / 2) x.dst s)) := by
  have run : exec (.dmaNand8 ch) s = .next (runNand8 ch s) := cpuWrite_whenIdle hs _ _
  rw [run, hx, runNand8, engineRun_eq_finishRun (nandLoop_setPhase ..) ((nandLoop_keeps ..).phase.trans hs.2)]

theorem wordRows_step {ch : Channel} {q : Nat × Instr} (hq : q ∈ wordRows ch) : q.1 ≤ 1 := by
  simp only [wordRows, List.mem_cons, List.not_mem_nil, or_false] at hq
  rcases hq with rfl | rfl | rfl
  · exact Nat.le_refl 1
  · exact Nat.le_refl 1
  · exact Nat.zero_le 1

/-! ## Copies and fills within internal RAM -/

theorem readWord_writeWord_own {m : Memory} (hw : m.wf) (a b : Nat) :
    (m.writeWord b (m.readWord a)).readWord a = m.readWord a := by
  by_cases h : a = b
  · rw [h, Memory.readWord_writeWord_same hw]
  · exact Memory.readWord_writeWord_other m _ h

/-- The first word of a transfer leaves the source words after it as they were, when the destination does not start
inside the source above its start, and always when the source is one word. -/
theorem readWord_after_first {step n src dst j : Nat} {m : Memory} (hw : m.wf) (hst : step ≤ 1)
    (hd : step = 0 ∨ dst ≤ src ∨ src + n ≤ dst) (hj : j + 1 < n) :
    (m.writeWord dst (m.readWord src)).readWord (src + step * (j + 1)) =
      m.readWord (src + step * (j + 1)) := by
  obtain rfl | rfl : step = 0 ∨ step = 1 := by omega
  · rw [Nat.zero_mul, Nat.add_zero]
    exact readWord_writeWord_own hw src dst
  · exact Memory.readWord_writeWord_other m _ (by omega)

/-- Each destination word of such a transfer is its original source word. -/
theorem copyWords_word {step n src dst j : Nat} {m : Memory} (hw : m.wf) (hst : step ≤ 1)
    (hd : step = 0 ∨ dst ≤ src ∨ src + n ≤ dst) (hj : j < n) :
    (copyWords step n src dst m).readWord (dst + j) = m.readWord (src + step * j) := by
  induction n generalizing src dst m j with
  | zero => omega
  | succ n ih =>
    simp only [copyWords]
    cases j with
    | zero =>
      rw [Nat.add_zero, Nat.mul_zero, Nat.add_zero, Memory.readWord, copyWords_byte_other (by omega),
        copyWords_byte_other (by omega)]
      exact Memory.readWord_writeWord_same hw _ _
    | succ j =>
      rw [show dst + (j + 1) = dst + 1 + j by omega, ih (Memory.writeWord_wf hw _ _) (by omega) (by omega),
        show src + step + step * j = src + step * (j + 1) by rw [Nat.mul_succ]; omega]
      exact readWord_after_first hw hst hd hj

/-- The row of a 16-bit mode within internal RAM is the copy of the memory and the clear of the channel. -/
theorem exec_wordRow_ram {s : State} {ch : Channel} {x : Transfer} {q : Nat × Instr} (hs : s.Ready)
    (hv : s.cfg.Valid) (hx : x = latch s.dma ch) (hq : q ∈ wordRows ch)
    (hsrc : x.len = 0 ∨ inRam s.cfg x.src (q.1 * (x.len - 1) + 1)) (hdst : inRam s.cfg x.dst x.len) :
    exec q.2 s = .next
      { s with
        iram := copyWords q.1 x.len (x.src - s.cfg.iramBase.toNat) (x.dst - s.cfg.iramBase.toNat) s.iram
        dma := s.dma.clear ch } := by
  obtain ⟨src_lt, dst_lt, len_lt⟩ := hx ▸ latch_lt s.dma ch
  rw [exec_wordRow hs hx hq, wordLoop_ram (wordRows_step hq) hv hs.1 hsrc hdst (by omega) (by omega)]
  exact congrArg _ (finishRun_of_ok hs.1)

/-- Settles O35: both rows are the upward copy by one. -/
theorem copyMovesRamWords : Obligations.CopyMovesRamWords := by
  intro s ch x hs hv hw hx hsrc hdst apart
  have source : x.len = 0 ∨ inRam s.cfg x.src (1 * (x.len - 1) + 1) := by
    unfold inRam at hsrc ⊢
    omega
  have copy16 := exec_wordRow_ram hs hv hx (q := (1, .dmaCopy16 ch)) (by simp [wordRows]) source hdst
  have copy16b := exec_wordRow_ram hs hv hx (q := (1, .dmaCopy16b ch)) (by simp [wordRows]) source hdst
  refine ⟨copyWords 1 x.len (x.src - s.cfg.iramBase.toNat) (x.dst - s.cfg.iramBase.toNat) s.iram,
    ?rows, ?triggers, copyWords_wf hw, ?words, ?others⟩
  case rows =>
    intro i hi
    simp only [List.mem_cons, List.not_mem_nil, or_false] at hi
    rcases hi with rfl | rfl
    · exact copy16
    · exact copy16b
  case triggers =>
    intro hm i hi
    rw [exec_trigger_eq_row hs hi, show s.dma.get ch .mode = x.mode by rw [hx]; rfl]
    rcases hm with hm | hm <;> rw [hm]
    · exact copy16
    · exact copy16b
  all_goals unfold inRam at hsrc hdst
  case words =>
    intro j hj
    rw [show x.dst + j - s.cfg.iramBase.toNat = x.dst - s.cfg.iramBase.toNat + j by omega,
      show x.src + j - s.cfg.iramBase.toNat = x.src - s.cfg.iramBase.toNat + 1 * j by omega]
    exact copyWords_word hw (Nat.le_refl 1) (by omega) hj
  case others => exact fun n hn => copyWords_byte_other (by omega)

/-- Settles O37: the row is the copy whose source stands still. -/
theorem fillRepeatsTheSourceWord : Obligations.FillRepeatsTheSourceWord := by
  intro s ch x hs hv hw hx hsrc hdst
  have source : inRam s.cfg x.src (0 * (x.len - 1) + 1) := by rwa [Nat.zero_mul]
  refine ⟨_, exec_wordRow_ram hs hv hx (q := (0, .dmaFill16 ch)) (by simp [wordRows]) (.inr source) hdst,
    copyWords_wf hw, ?words, ?others⟩
  all_goals unfold inRam at hdst
  case words =>
    intro j hj
    rw [show x.dst + j - s.cfg.iramBase.toNat = x.dst - s.cfg.iramBase.toNat + j by omega,
      copyWords_word hw (Nat.zero_le 1) (.inl rfl) hj, Nat.zero_mul, Nat.add_zero]
  case others => exact fun n hn => copyWords_byte_other (by omega)

/-! ## The NAND transfer into internal RAM -/

/-- Word `j` of a NAND transfer: two consecutive bytes of the sequencer, the first in the low half (42_dma R168). -/
def nandPair (s : State) (j : Nat) : Word :=
  packBytes
    (deliveredByte s.cfg s.nandCmd s.nandAddrHi s.nandAddrLo (s.nandPos + BitVec.ofNat 32 (2 * j)))
    (deliveredByte s.cfg s.nandCmd s.nandAddrHi s.nandAddrLo (s.nandPos + BitVec.ofNat 32 (2 * j + 1)))

/-- The sequencer after `n` data reads: position and log. -/
def nandReads (n : Nat) (s : State) : State :=
  { s with
    nandPos := s.nandPos + BitVec.ofNat 32 n
    log := s.log ++ deliveredEvents s.nandCmd n }

theorem nandReads_zero (s : State) : nandReads 0 s = s := by
  have none (c : Byte) : deliveredEvents c 0 = [] := by
    unfold deliveredEvents
    split <;> rfl
  rw [nandReads, none, List.append_nil, BitVec.add_zero]

theorem nandReads_add (m n : Nat) (s : State) : nandReads n (nandReads m s) = nandReads (m + n) s := by
  simp only [nandReads, BitVec.add_assoc, ← BitVec.ofNat_add, List.append_assoc, deliveredEvents_append]

theorem nandDataRead_state (s : State) : (nandDataRead s).2 = nandReads 1 s := by
  rw [nandDataRead_eq]
  rfl

theorem nandDataRead_lowByte (s : State) :
    lowByte (nandDataRead s).1 = deliveredByte s.cfg s.nandCmd s.nandAddrHi s.nandAddrLo s.nandPos := by
  rw [nandDataRead_eq]
  exact lowByte_byteWord _

theorem nandPair_zero (s : State) :
    packBytes (lowByte (nandDataRead s).1) (lowByte (nandDataRead (nandDataRead s).2).1) = nandPair s 0 := by
  rw [nandDataRead_state, nandDataRead_lowByte, nandDataRead_lowByte, nandPair, Nat.mul_zero, BitVec.add_zero]
  rfl

theorem nandPair_succ (s : State) (j : Nat) : nandPair (nandReads 2 s) j = nandPair s (j + 1) := by
  simp only [nandPair, nandReads, BitVec.add_assoc, ← BitVec.ofNat_add]
  rw [show 2 + 2 * j = 2 * (j + 1) by omega, show 2 + (2 * j + 1) = 2 * (j + 1) + 1 by omega]

/-- A NAND loop into internal RAM is its words put into the memory and the two data reads of each. -/
theorem nandLoop_ram {n dst : Nat} {s : State} (hv : s.cfg.Valid) (hf : s.fault = none)
    (hd : inRam s.cfg dst n) (hdst : dst + n < 2 ^ 32) :
    nandLoop n dst s =
      (nandReads (2 * n) s).setIram (putWords (nandPair s) n (dst - s.cfg.iramBase.toNat) s.iram) := by
  induction n generalizing dst s with
  | zero =>
    rw [nandReads_zero]
    rfl
  | succ n ih =>
    have first : engineWrite (BitVec.ofNat 32 dst) (nandPair s 0) (nandReads 2 s) =
        (nandReads 2 s).setIram (s.iram.writeWord (dst - s.cfg.iramBase.toNat) (nandPair s 0)) :=
      engineWrite_ram (s := nandReads 2 s) (j := 0) hv hd (by omega) (by omega)
    have rest : inRam s.cfg (dst + 1) n := by
      unfold inRam at hd ⊢
      omega
    have next : dst + 1 - s.cfg.iramBase.toNat = dst - s.cfg.iramBase.toNat + 1 := by
      unfold inRam at hd
      omega
    have words : nandPair (nandReads 2 s) = fun j => nandPair s (j + 1) := funext (nandPair_succ s)
    rw [nandLoop_succ hf, nandPair_zero, nandDataRead_state, nandDataRead_state, nandReads_add, first]
    refine (ih (s := (nandReads 2 s).setIram _) hv hf rest (by omega)).trans ?_
    change (nandReads (2 * n) (nandReads 2 s)).setIram (putWords (nandPair (nandReads 2 s)) n _ _) = _
    rw [nandReads_add, words, State.setIram_cfg, show (nandReads 2 s).cfg = s.cfg from rfl, next, Nat.add_comm 2]
    rfl

/-- Settles O39: the row is the NAND loop, whose words `putWords` places. -/
theorem nandTransferPacksBytePairs : Obligations.NandTransferPacksBytePairs := by
  intro s ch x hs hv hw hx hdst
  obtain ⟨-, dst_lt, len_lt⟩ := hx ▸ latch_lt s.dma ch
  refine ⟨putWords (nandPair s) (x.len / 2) (x.dst - s.cfg.iramBase.toNat) s.iram,
    ?row, putWords_wf hw, ?words, ?others⟩
  case row =>
    rw [exec_nandRow hs hx, nandLoop_ram hv hs.1 hdst (by omega)]
    exact congrArg _ (finishRun_of_ok hs.1)
  all_goals unfold inRam at hdst
  case words =>
    intro j hj
    rw [Nat.sub_add_comm hdst.1, putWords_word hw hj, nandPair, packBytes_toNat]
  case others => exact fun n hn => putWords_byte_other (by omega)

/-! ## The engine's write of a register -/

/-- Each register stands at its address, whatever the configuration (30_encoding R101). -/
theorem busTarget_regAddress (c : Config) (r : Reg) : busTarget c (BitVec.ofNat 32 (regAddress r)) = .reg r := by
  cases r
  case cs i => cases i <;> exact (busTarget_sysreg rfl).trans (by decide)
  case dma ch k => cases ch <;> cases k <;> exact (busTarget_sysreg rfl).trans (by decide)
  all_goals exact (busTarget_sysreg rfl).trans (by decide)

theorem engineWrite_reg (r : Reg) (v : Word) (s : State) :
    engineWrite (BitVec.ofNat 32 (regAddress r)) v s =
      regWrite (fun d t => raise (.dmaNestedTrigger d) t) r (BitVec.ofNat 32 (regAddress r)) v s := by
  rw [engineWrite, busWriteWith, busTarget_regAddress]

/-- One turn of the loop from internal RAM to a register. -/
theorem wordLoop_ram_reg {step n src m j : Nat} {s : State} (r : Reg) (hv : s.cfg.Valid) (hf : s.fault = none)
    (hs : inRam s.cfg src m) (hj : j < m) (hsrc : src + j < 2 ^ 32) :
    wordLoop step (n + 1) (src + j) (regAddress r) s =
      wordLoop step n (src + j + step) (regAddress r + 1)
        (regWrite (fun d t => raise (.dmaNestedTrigger d) t) r (BitVec.ofNat 32 (regAddress r))
          (s.iram.readWord (src + j - s.cfg.iramBase.toNat)) s) := by
  rw [wordLoop_succ hf, busRead_ram hv hs hj hsrc, engineWrite_reg]

/-- Settles O42: two turns of the loop, the first to `0x7820`, the second to `0x7821`. -/
theorem transferReachesTheBlocksRegisters : Obligations.TransferReachesTheBlocksRegisters := by
  intro s ch x hs hv hx hdst hlen hsrc
  obtain ⟨src_lt, -, -⟩ := hx ▸ latch_lt s.dma ch
  have hq : ((1, .dmaCopy16 ch) : Nat × Instr) ∈ wordRows ch := by simp [wordRows]
  have first := wordLoop_ram_reg (step := 1) (n := 1) (j := 0) (.cs .cs0) hv hs.1 hsrc (by omega) (by omega)
  have second (v : Word) := wordLoop_ram_reg (step := 1) (n := 0) (j := 1) (.cs .cs1) (s := s.setCs .cs0 v) hv hs.1
    hsrc (by omega) (by omega)
  have loop : wordLoop 1 2 x.src 0x7820 s =
      (s.setCs .cs0 (s.iram.readWord (x.src - s.cfg.iramBase.toNat))).setCs .cs1
        (s.iram.readWord (x.src + 1 - s.cfg.iramBase.toNat)) := first.trans (second _)
  rw [exec_wordRow hs hx hq, hlen, hdst, loop]
  exact congrArg _ (finishRun_of_ok hs.1)

/-! ## The nested trigger -/

/-- A transfer that meets the trigger register after `k` words stops with the next word fetched and refused
(42_dma R175). -/
theorem wordLoop_meets_trigger {step n k src dst : Nat} {s : State} (hf : s.fault = none)
    (hd : dst + k = regAddress .dmaStatus) (hk : k < n) :
    wordLoop step n src dst s =
      raise (.dmaNestedTrigger (busRead (BitVec.ofNat 32 (src + step * k)) (wordLoop step k src dst s)).1)
        (busRead (BitVec.ofNat 32 (src + step * k)) (wordLoop step k src dst s)).2 := by
  obtain ⟨m, rfl⟩ : ∃ m, n = k + (m + 1) := ⟨n - k - 1, by omega⟩
  have before := wordLoop_fault_none (step := step) (src := src) hf (Nat.le_of_eq hd)
  rw [wordLoop_add, wordLoop_succ before, hd, engineWrite_reg]
  exact wordLoop_of_fault rfl

theorem nandLoop_meets_trigger {n k dst : Nat} {s : State} (hf : s.fault = none)
    (hd : dst + k = regAddress .dmaStatus) (hk : k < n) :
    nandLoop n dst s =
      raise (.dmaNestedTrigger (packBytes (lowByte (nandDataRead (nandLoop k dst s)).1)
          (lowByte (nandDataRead (nandDataRead (nandLoop k dst s)).2).1)))
        (nandDataRead (nandDataRead (nandLoop k dst s)).2).2 := by
  obtain ⟨m, rfl⟩ : ∃ m, n = k + (m + 1) := ⟨n - k - 1, by omega⟩
  have before := nandLoop_fault_none hf (Nat.le_of_eq hd)
  rw [nandLoop_add, nandLoop_succ before, hd, engineWrite_reg]
  exact nandLoop_of_fault rfl

theorem exec_wordRow_nested {s : State} {ch : Channel} {x : Transfer} {q : Nat × Instr} {k : Nat} (hs : s.Ready)
    (hx : x = latch s.dma ch) (hq : q ∈ wordRows ch) (hd : x.dst + k = regAddress .dmaStatus) (hk : k < x.len)
    {w : Word} {t : State}
    (fetched : busRead (BitVec.ofNat 32 (x.src + q.1 * k)) (wordLoop q.1 k x.src x.dst s) = (w, t)) :
    exec q.2 s = .next (raise (.dmaNestedTrigger w) t) := by
  rw [exec_wordRow hs hx hq, wordLoop_meets_trigger hs.1 hd hk, fetched]
  exact congrArg _ (finishRun_of_fault rfl)

/-- Settles O33: the loop is cut at the trigger register; the words before it raise no fault, and the one after it is
fetched and refused. -/
theorem nestedTriggerStopsTheTransfer : Obligations.NestedTriggerStopsTheTransfer := by
  intro s ch x hs hx
  obtain ⟨src_lt, -, -⟩ := hx ▸ latch_lt s.dma ch
  refine ⟨?words, ?pairs, ?atOnce, ?second⟩
  case words =>
    rintro k u p q hq hd hk rfl rfl
    refine ⟨wordLoop_fault_none hs.1 (Nat.le_of_eq hd), fun i hi => ?_⟩
    rw [exec_starter hs hi]
    exact exec_wordRow_nested hs hx hq hd hk rfl
  case pairs =>
    rintro k u p q hd hk rfl rfl rfl
    refine ⟨nandLoop_fault_none hs.1 (Nat.le_of_eq hd), fun i hi => ?_⟩
    rw [exec_starter hs hi, exec_nandRow hs hx, nandLoop_meets_trigger hs.1 hd hk]
    exact congrArg _ (finishRun_of_fault rfl)
  case atOnce =>
    rintro w q hq hv hd hlen hsrc rfl i hi
    rw [exec_starter hs hi]
    exact exec_wordRow_nested hs hx hq (k := 0) hd hlen (busRead_ram (j := 0) hv hsrc (by omega) (by omega))
  case second =>
    rintro v w q hq hv hd hlen hsrc rfl rfl i hi
    have step := wordRows_step hq
    have first := wordLoop_ram_reg (step := q.1) (n := 0) (j := 0) .dmaSrcType hv hs.1 hsrc (by omega) (by omega)
    have fetched : busRead (BitVec.ofNat 32 (x.src + q.1 * 1)) (wordLoop q.1 1 x.src x.dst s) =
        (s.iram.readWord (x.src + q.1 - s.cfg.iramBase.toNat),
          s.setDmaSrcType (s.iram.readWord (x.src - s.cfg.iramBase.toNat))) := by
      rw [hd, Nat.mul_one]
      exact (congrArg (busRead _) first).trans (busRead_ram (j := q.1) hv hsrc (by omega) (by omega))
    rw [exec_starter hs hi]
    exact exec_wordRow_nested hs hx hq (by rw [hd]; rfl) hlen fetched

end Sys2Proof.Machine
end

section
/-! PROOFS. The statements about the NAND sequencer of 43_nand: the accesses of its registers, the byte each command
delivers, and the stream of consecutive data reads. -/

namespace Sys2Proof.Machine

/-! ## The command and address registers -/

/-- Settles O19: each of the four accesses is the default response under its own address. -/
theorem wrongDirectionNandAccesses : Obligations.WrongDirectionNandAccesses :=
  fun _ _ hf => ⟨cpuRead_of_default hf rfl, cpuRead_of_default hf rfl, cpuRead_of_default hf rfl,
    cpuWrite_of_default hf rfl⟩

theorem lowByte_eq_ofNat (v : Word) : lowByte v = BitVec.ofNat 8 (v.toNat % 256) := by
  rw [← lowByte_toNat, BitVec.ofNat_toNat, BitVec.setWidth_eq]

/-- Settles O20: the row stores the low byte. -/
theorem nandCommandWriteKeepsPosition : Obligations.NandCommandWriteKeepsPosition := by
  intro s v hf
  rw [← lowByte_eq_ofNat]
  exact cpuWrite_of_eq hf rfl

/-- Settles O21: each row stores its half and rewinds. -/
theorem nandAddressWriteRewinds : Obligations.NandAddressWriteRewinds :=
  fun _ _ hf => ⟨cpuWrite_of_eq hf rfl, cpuWrite_of_eq hf rfl⟩

/-! ## One data read -/

/-- What every data read does, the position as a number modulo `2^32` (43_nand R196). -/
theorem nandDeliver_eq (b : Byte) (s : State) :
    nandDeliver b s = (b.setWidth 16, { s with nandPos := BitVec.ofNat 32 (s.nandPos.toNat + 1) }) := by
  rw [BitVec.ofNat_add, BitVec.ofNat_toNat, BitVec.setWidth_eq]
  rfl

/-- Settles O22: both rows deliver a byte, NAND.READ that of the exact offset. -/
theorem nandDataRowsDeliverTheirByte : Obligations.NandDataRowsDeliverTheirByte := by
  intro s hf
  rw [← nandOffset_eq]
  exact ⟨cpuRead_of_eq hf (nandDeliver_eq _ s), cpuRead_of_eq hf (nandDeliver_eq _ s)⟩

/-- The data port read is the row of format NANDCMD that the latched command selects (43_nand R193). -/
theorem exec_nanddataR_eq_row (s : State) : exec .nanddataR s = exec (decodeNandCmd s.nandCmd) s := by
  unfold decodeNandCmd
  cases h : nandOp s.nandCmd <;> exact cpuRead_congr (by rw [nandDataRead, h])

/-- Settles O23: both rows deliver the constant byte, and the latched command selects the row. -/
theorem statusAndUnknownReadsAreAllOnes : Obligations.StatusAndUnknownReadsAreAllOnes := by
  refine fun s command hf => ⟨cpuRead_of_none hf, cpuRead_of_none hf, fun h => ?status, fun h0 h70 h90 => ?unknown⟩
  case status =>
    rw [exec_nanddataR_eq_row, h]
    rfl
  case unknown =>
    have unlisted : s.nandCmd ∉ [0x00, 0x70, 0x90] := by
      simp only [List.mem_cons, List.not_mem_nil, or_false, not_or]
      exact ⟨h0, h70, h90⟩
    rw [exec_nanddataR_eq_row, decodeNandCmd_of_unlisted unlisted]

/-- Settles O24: the row by the latched command, and everything that row does by `nandDataRead_eq`. -/
theorem dataPortFollowsTheLatchedCommand : Obligations.DataPortFollowsTheLatchedCommand :=
  fun s hf => ⟨exec_nanddataR_eq_row s, cpuRead_of_eq hf (nandDataRead_eq s)⟩

/-! ## Consecutive data reads -/

theorem execAll_cons_of_next {i : Instr} {rest : List Instr} {s t : State} (h : exec i s = .next t) :
    execAll (i :: rest) s = execAll rest t := by
  rw [execAll, h]

/-- The data port read with the state after it as one of `nandReads`. -/
theorem exec_nanddataR {s : State} (hf : s.fault = none) :
    exec .nanddataR s = .next ((nandReads 1 s).setReadData
      (byteWord (deliveredByte s.cfg s.nandCmd s.nandAddrHi s.nandAddrLo s.nandPos))) :=
  cpuRead_of_eq hf (nandDataRead_eq s)

/-- After `n + 1` data reads the word read is the byte at the last position, whatever the command. -/
theorem execAll_dataReads {s : State} (hf : s.fault = none) (n : Nat) :
    execAll (List.replicate (n + 1) .nanddataR) s = .next ((nandReads (n + 1) s).setReadData
      (byteWord (deliveredByte s.cfg s.nandCmd s.nandAddrHi s.nandAddrLo (s.nandPos + BitVec.ofNat 32 n)))) := by
  induction n generalizing s with
  | zero =>
    rw [BitVec.add_zero]
    exact execAll_cons_of_next (exec_nanddataR hf)
  | succ n ih =>
    refine (execAll_cons_of_next (exec_nanddataR hf)).trans
      ((ih (s := (nandReads 1 s).setReadData _) hf).trans ?_)
    change Host.Outcome.next ((nandReads (n + 1) (nandReads 1 s)).setReadData
      (byteWord (deliveredByte s.cfg s.nandCmd s.nandAddrHi s.nandAddrLo
        (s.nandPos + BitVec.ofNat 32 1 + BitVec.ofNat 32 n)))) = _
    rw [nandReads_add, BitVec.add_assoc, ← BitVec.ofNat_add, Nat.add_comm 1 (n + 1), Nat.add_comm 1 n]

/-- Under command `0x00` and from position 0, `n + 1` data reads end with image byte `addr * 2 + n`. -/
theorem execAll_dataReads_image {s : State} {n : Nat} (hf : s.fault = none) (hc : s.nandCmd = 0x00)
    (hp : s.nandPos = 0) (hn : n + 1 < 2 ^ 32) :
    execAll (List.replicate (n + 1) .nanddataR) s = .next { s with
      nandPos := BitVec.ofNat 32 (n + 1)
      readData := byteWord (imageByte s.cfg ((s.nandAddrHi.toNat * 65536 + s.nandAddrLo.toNat) * 2 + n)) } := by
  have position (k : Nat) : s.nandPos + BitVec.ofNat 32 k = BitVec.ofNat 32 k := by
    rw [hp]
    exact BitVec.zero_add _
  have silent : deliveredEvents s.nandCmd (n + 1) = [] := if_pos (.inr (.inl hc))
  have image : deliveredByte s.cfg s.nandCmd s.nandAddrHi s.nandAddrLo (BitVec.ofNat 32 n) =
      imageByte s.cfg ((s.nandAddrHi.toNat * 65536 + s.nandAddrLo.toNat) * 2 + n) := by
    rw [deliveredByte, hc, if_neg (by decide), if_pos rfl, addr_toNat (by omega)]
  rw [execAll_dataReads hf, nandReads, position, position, silent, image, List.append_nil]
  rfl

/-- Settles O25: the write rewinds the position, and the reads run from 0. -/
theorem addressWriteRestartsTheStream : Obligations.AddressWriteRestartsTheStream := by
  intro s v n hf hc hn
  obtain ⟨low, high⟩ := nandAddressWriteRewinds s v hf
  exact ⟨⟨_, lowByte_byteWord _, (execAll_cons_of_next low).trans (execAll_dataReads_image hf hc rfl hn)⟩,
    ⟨_, lowByte_byteWord _, (execAll_cons_of_next high).trans (execAll_dataReads_image hf hc rfl hn)⟩⟩

end Sys2Proof.Machine
end

section
/-! PROOFS. The statements about the bootstrap of 44_bootstrap: what BOOTSTRAP.NAND places, when it and RESET are
refused, and the reset of the variants that place nothing. -/

namespace Sys2Proof.Machine

/-! ## The placed words as numbers -/

/-- A boot word, low byte first (44_bootstrap R213). -/
theorem bootWord_toNat (c : Config) (i : Nat) :
    (bootWord c i).toNat = (imageByte c (2 * i + 1)).toNat * 256 + (imageByte c (2 * i)).toNat :=
  packBytes_toNat _ _

/-- A vector word modulo `2^16` (44_bootstrap R214, R215). -/
theorem vectorWord_toNat (c : Config) (k : Nat) :
    (vectorWord c k).toNat =
      if k = 2 then ((imageByte c 0x15).toNat * 256 + 0x20) % 65536
      else (c.vectorBase.toNat + 0x0A + 2 * k) % 65536 := by
  unfold vectorWord
  split
  · rw [BitVec.toNat_add, bootDestOf_toNat]
    rfl
  · simp only [BitVec.toNat_add, BitVec.ofNat_eq_ofNat, BitVec.toNat_ofNat]
    omega

/-! ## What the two operations answer -/

theorem exec_bootstrapNand_of_fits {s : State} (h : bootFits s.cfg = true) :
    exec .bootstrapNand s = .next (bootstrap s) :=
  if_pos h

theorem exec_bootstrapNand_of_stray {s : State} (h : ¬bootFits s.cfg = true) :
    exec .bootstrapNand s = .refused .bootBlockOutsideRam :=
  if_neg h

theorem exec_reset_of_stray {s : State} (hb : s.cfg.bootSource = .nand) (h : ¬bootFits s.cfg = true) :
    exec .reset s = .refused .bootBlockOutsideRam := by
  change execReset s = _
  rw [execReset, hb]
  exact if_neg h

theorem exec_reset_of_ne_nand {s : State} (hb : s.cfg.bootSource ≠ .nand) :
    exec .reset s = .next (leaveReset (resetRegisters s)) := by
  change execReset s = _
  unfold execReset
  cases h : s.cfg.bootSource with
  | nand => exact absurd h hb
  | internalMirror => rfl
  | spi => rfl

/-! ## The obligations -/

/-- Settles O46: the two memories are those of `bootstrap_eq`, read word by word and byte by byte. -/
theorem bootstrapPlacesBlockAndVectors : Obligations.BootstrapPlacesBlockAndVectors := by
  rintro s _ _ _ ram_wf rom_wf rfl rfl rfl hlow hhigh
  have next := exec_bootstrapNand_of_fits ((bootFits_iff s.cfg).mpr ⟨hlow, hhigh⟩)
  rw [bootstrap_eq, bootDestOf_toNat] at next
  refine ⟨_, _, next, copyBoot_wf ram_wf, patchVectors_wf rom_wf, fun i hi => ?block,
    fun n hn => copyBoot_byte_other hn, fun k hk => ?vectors, fun n hn => ?rom⟩
  case block => rw [copyBoot_word ram_wf hi, bootWord_toNat]
  case vectors => exact (congrArg _ (patchVectors_word rom_wf hk)).trans (vectorWord_toNat s.cfg k)
  case rom =>
    apply patchVectors_byte_other
    unfold vectorSlot0
    omega

/-- Settles O47: such a block does not fit. -/
theorem strayBootBlockIsRefused : Obligations.StrayBootBlockIsRefused := by
  rintro s _ rfl h
  have stray : ¬bootFits s.cfg = true := mt (bootFits_iff s.cfg).mp h
  exact ⟨exec_bootstrapNand_of_stray stray, fun hb => exec_reset_of_stray hb stray⟩

/-- Settles O49: RESET is its register step and the vector fetch. -/
theorem otherBootSourcesPlaceNothing : Obligations.OtherBootSourcesPlaceNothing :=
  fun _ hb => exec_reset_of_ne_nand hb

end Sys2Proof.Machine
end

section
/-! PROOFS. The statements about the rest of the system-register block of 45_sysreg_misc: which addresses select nothing
there, the delegated windows, and the accesses of the unhandled addresses. -/

namespace Sys2Proof.Machine

/-! ## The unhandled addresses (R229) -/

/-- The two windows hold no listed address, and between them the register select decides (20_memory R63). -/
theorem sysregTarget_eq_unhandled {a : Nat} : sysregTarget a = .unhandled ↔ Config.isUnhandled a = true := by
  rw [sysregTarget, line_eq_iff, line_eq_iff]
  simp only [reduceCtorEq, and_false, false_or]
  constructor
  case mp =>
    rintro ⟨video, audio, unselected⟩
    rw [← selectReg_eq_none video audio]
    split at unselected
    · cases unselected
    · assumption
  case mpr =>
    intro listed
    have ranges := of_decide_eq_true listed
    have video : ¬a ≤ Config.videoWinLast := by rw [Config.videoWinLast]; omega
    have audio : ¬Config.audioWinFirst ≤ a := by rw [Config.audioWinFirst]; omega
    rw [(selectReg_eq_none video audio).mpr listed]
    exact ⟨video, audio, rfl⟩

/-- Settles O55: the decode agrees with the list, and an address that selects a register is the register's own. -/
theorem registerMapMatchesTheUnhandledList : Obligations.RegisterMapMatchesTheUnhandledList :=
  ⟨fun _ _ _ => sysregTarget_eq_unhandled,
    fun _ _ _ ha hb => (sysregTarget_eq_reg ha).trans (sysregTarget_eq_reg hb).symm⟩

/-! ## The accesses of the delegated windows and of the unhandled addresses -/

/-- Settles O17: each access is the port's own read or write, which touches that port's history alone. -/
theorem coprocessorWindowsAreDelegated : Obligations.CoprocessorWindowsAreDelegated :=
  fun _ _ _ hf => ⟨cpuRead_of_none hf, cpuWrite_of_none hf, cpuRead_of_none hf, cpuWrite_of_none hf⟩

/-- Settles O18: both accesses are the default response under the event of their own. -/
theorem unhandledRegistersReadZero : Obligations.UnhandledRegistersReadZero :=
  fun _ _ _ hf => ⟨cpuRead_of_default hf rfl, cpuWrite_of_default hf rfl⟩

end Sys2Proof.Machine
end

section
/-! PROOFS. The statement about a faulted machine of 60_exceptions: the fault is tested in one place, the CPU's read and
the CPU's write, and every operation but the reset-time ones is one of the two. -/

namespace Sys2Proof.Machine

/-- Every operation but RESET and BOOTSTRAP.NAND is one read or one write by the CPU (20_memory R64, R65). -/
theorem exec_eq_cpuRead_or_cpuWrite {i : Instr} (notReset : i ≠ .reset) (notBootstrap : i ≠ .bootstrapNand) :
    (∃ f, exec i = cpuRead f) ∨ ∃ f, exec i = cpuWrite f := by
  cases i
  case reset => contradiction
  case bootstrapNand => contradiction
  case bankswR | cs0R | cs1R | cs2R | cs3R | cs4R => exact .inl ⟨_, rfl⟩
  case nandcmdR | nandadrlR | nandadrhR | nanddataR => exact .inl ⟨_, rfl⟩
  case nandRead | nandStatus | nandReadid | nandUnknown => exact .inl ⟨_, rfl⟩
  case dma0ModeR | dma0SrcloR | dma0DstloR | dma0LenloR | dma0SrchiR | dma0DsthiR | dma0LenhiR => exact .inl ⟨_, rfl⟩
  case dma1ModeR | dma1SrcloR | dma1DstloR | dma1LenloR | dma1SrchiR | dma1DsthiR | dma1LenhiR => exact .inl ⟨_, rfl⟩
  case dma2ModeR | dma2SrcloR | dma2DstloR | dma2LenloR | dma2SrchiR | dma2DsthiR | dma2LenhiR => exact .inl ⟨_, rfl⟩
  case dmasrctypeR | dmastatusR => exact .inl ⟨_, rfl⟩
  case videoR | audioR | sysregUnhR => exact .inl ⟨_, rfl⟩
  case iramR | iromR | extwinR | bankwinR | unmappedR => exact .inl ⟨_, rfl⟩
  all_goals exact .inr ⟨_, rfl⟩

/-- Settles O43: both accesses of the CPU test the fault before anything else. -/
theorem faultedMachineRefusesAccesses : Obligations.FaultedMachineRefusesAccesses := by
  intro i s r faulted notReset notBootstrap
  obtain ⟨f, isRead⟩ | ⟨f, isWrite⟩ := exec_eq_cpuRead_or_cpuWrite notReset notBootstrap
  · rw [isRead]
    exact cpuRead_of_fault faulted
  · rw [isWrite]
    exact cpuWrite_of_fault faulted

end Sys2Proof.Machine
end

section
/-! PROOFS. The statements about the hazards of 70_reset_and_hazards that the engine meets: a copy into its own source,
a fill from the NAND data port, and a second trigger without reprogramming. -/

namespace Sys2Proof.Machine

/-! ## A copy one word up (R270) -/

/-- Each word an upward copy moves one place further is the one just written, so the first word spreads over the
range. -/
theorem copyWords_one_up {n src j : Nat} {m : Memory} (hw : m.wf) (hj : j ≤ n) :
    (copyWords 1 n src (src + 1) m).readWord (src + j) = m.readWord src := by
  induction n generalizing src m j with
  | zero =>
    obtain rfl : j = 0 := by omega
    rfl
  | succ n ih =>
    simp only [copyWords]
    cases j with
    | zero =>
      rw [Nat.add_zero, Memory.readWord, copyWords_byte_other (by omega), copyWords_byte_other (by omega)]
      exact Memory.readWord_writeWord_other m _ (by omega)
    | succ j =>
      rw [show src + (j + 1) = src + 1 + j by omega, ih (Memory.writeWord_wf hw _ _) (by omega)]
      exact Memory.readWord_writeWord_same hw _ _

/-- Settles O36: both rows are the upward copy by one, here onto the source's own next word. -/
theorem overlappingCopyRepeatsFirstWord : Obligations.OverlappingCopyRepeatsFirstWord := by
  intro s ch x hs hv hw hx hram hdst
  have source : x.len = 0 ∨ inRam s.cfg x.src (1 * (x.len - 1) + 1) := by
    unfold inRam at hram ⊢
    omega
  have destination : inRam s.cfg x.dst x.len := by
    unfold inRam at hram ⊢
    omega
  unfold inRam at hram
  refine ⟨copyWords 1 x.len (x.src - s.cfg.iramBase.toNat) (x.dst - s.cfg.iramBase.toNat) s.iram,
    fun i hi => exec_wordRow_ram hs hv hx (q := (1, i)) ?row source destination, fun j hj => ?word⟩
  case row =>
    simp only [List.mem_cons, List.not_mem_nil, or_false] at hi
    rcases hi with rfl | rfl <;> simp [wordRows]
  case word =>
    rw [show x.dst - s.cfg.iramBase.toNat = x.src - s.cfg.iramBase.toNat + 1 by omega,
      show x.dst + j - s.cfg.iramBase.toNat = x.src - s.cfg.iramBase.toNat + (j + 1) by omega]
    exact copyWords_one_up hw hj

/-! ## A fill from the NAND data port (R269) -/

/-- Word `j` of a fill from the data port: one byte of the sequencer, zero-extended (43_nand R193). -/
def nandWord (s : State) (j : Nat) : Word :=
  byteWord (deliveredByte s.cfg s.nandCmd s.nandAddrHi s.nandAddrLo (s.nandPos + BitVec.ofNat 32 j))

theorem nandWord_succ (s : State) (j : Nat) : nandWord (nandReads 1 s) j = nandWord s (j + 1) := by
  simp only [nandWord, nandReads, BitVec.add_assoc, ← BitVec.ofNat_add]
  rw [Nat.add_comm 1 j]

/-- A data read is the next word of the stream and one read of the sequencer. -/
theorem nandDataRead_eq_nandWord (s : State) : nandDataRead s = (nandWord s 0, nandReads 1 s) := by
  rw [nandDataRead_eq, nandWord, BitVec.add_zero]
  rfl

/-- A fill from the data port into internal RAM is its words put into the memory and one data read of each. -/
theorem wordLoop_dataPort_ram {n dst : Nat} {s : State} (hv : s.cfg.Valid) (hf : s.fault = none)
    (hd : inRam s.cfg dst n) (hdst : dst + n < 2 ^ 32) :
    wordLoop 0 n 0x7854 dst s =
      (nandReads n s).setIram (putWords (nandWord s) n (dst - s.cfg.iramBase.toNat) s.iram) := by
  induction n generalizing dst s with
  | zero =>
    rw [nandReads_zero]
    rfl
  | succ n ih =>
    have fetched : busRead (BitVec.ofNat 32 0x7854) s = (nandWord s 0, nandReads 1 s) :=
      (busRead_dataPort s).trans (nandDataRead_eq_nandWord s)
    have first : engineWrite (BitVec.ofNat 32 dst) (nandWord s 0) (nandReads 1 s) =
        (nandReads 1 s).setIram (s.iram.writeWord (dst - s.cfg.iramBase.toNat) (nandWord s 0)) :=
      engineWrite_ram (s := nandReads 1 s) (j := 0) hv hd (by omega) (by omega)
    have rest : inRam s.cfg (dst + 1) n := by
      unfold inRam at hd ⊢
      omega
    have next : dst + 1 - s.cfg.iramBase.toNat = dst - s.cfg.iramBase.toNat + 1 := by
      unfold inRam at hd
      omega
    have words : nandWord (nandReads 1 s) = fun j => nandWord s (j + 1) := funext (nandWord_succ s)
    rw [wordLoop_succ hf, fetched, first]
    refine (ih (s := (nandReads 1 s).setIram _) hv hf rest (by omega)).trans ?_
    change (nandReads n (nandReads 1 s)).setIram (putWords (nandWord (nandReads 1 s)) n _ _) = _
    rw [nandReads_add, words, State.setIram_cfg, show (nandReads 1 s).cfg = s.cfg from rfl, next, Nat.add_comm 1]
    rfl

/-- Settles O38: the row is the loop from the data port, whose words `putWords` places. -/
theorem fillFromDataPortStreamsBytes : Obligations.FillFromDataPortStreamsBytes := by
  intro s ch x hs hv hw hx hsrc hdst
  obtain ⟨-, dst_lt, len_lt⟩ := hx ▸ latch_lt s.dma ch
  refine ⟨putWords (nandWord s) x.len (x.dst - s.cfg.iramBase.toNat) s.iram,
    ?row, putWords_wf hw, ?words, ?others⟩
  case row =>
    have run := exec_wordRow hs hx (q := (0, .dmaFill16 ch)) (by simp [wordRows])
    rw [hsrc, wordLoop_dataPort_ram hv hs.1 hdst (by omega)] at run
    exact run.trans (congrArg _ (finishRun_of_ok hs.1))
  all_goals unfold inRam at hdst
  case words =>
    intro j hj
    rw [Nat.sub_add_comm hdst.1]
    exact putWords_word hw hj
  case others => exact fun n hn => putWords_byte_other (by omega)

/-! ## A channel that is zero (R266) -/

theorem DmaParams.eq_zero {p : DmaParams} (h : ∀ k, p.get k = 0) : p = .zero := by
  rw [DmaParams.zero, DmaParams.mk.injEq]
  exact ⟨h .mode, h .srcLo, h .dstLo, h .lenLo, h .srcHi, h .dstHi, h .lenHi⟩

@[simp] theorem DmaRegs.setParams_params (d : DmaRegs) (ch : Channel) : d.setParams ch (d.params ch) = d := by
  cases ch <;> rfl

theorem DmaRegs.clear_of_zero {d : DmaRegs} {ch : Channel} (h : ∀ k, d.get ch k = 0) : d.clear ch = d := by
  rw [DmaRegs.clear, ← DmaParams.eq_zero h, DmaRegs.setParams_params]

theorem latch_of_zero {d : DmaRegs} {ch : Channel} (h : ∀ k, d.get ch k = 0) : latch d ch = ⟨0, 0, 0, 0⟩ := by
  simp only [latch, h]
  rfl

/-- In a ready state a trigger of a zero channel logs the unhandled mode `0x0000` and does nothing else: the mode moves
nothing, and the channel's clear finds it clear (42_dma R172, R173). -/
theorem exec_trigger_of_zero {s : State} (hs : s.Ready) {ch : Channel} {i : Instr} (hi : i ∈ triggers ch)
    (zero : ∀ k, s.dma.get ch k = 0) :
    exec i s = .next { s with log := s.log ++ [.dmaUnhandledMode ch 0 0 0 0] } := by
  obtain ⟨row, -, trigger⟩ := unhandledModeMovesNothing s ch 0 hs
  rw [trigger (zero .mode).symm (by decide) (by decide) (by decide) (by decide) i hi, row, DmaRegs.clear_of_zero zero,
    latch_of_zero zero]

/-- Settles O41: a run without a fault ends Idle with the channel zero, which is a ready state again. -/
theorem secondTriggerMovesNothing : Obligations.SecondTriggerMovesNothing := by
  intro s t ch hs i hi run unfaulted
  obtain ⟨t', run', idle, cleared, -⟩ :=
    everyTriggerCompletesAndClears s ch 0 hs i (List.mem_append_left _ hi)
  obtain rfl : t' = t := Host.Outcome.next.inj (run'.symm.trans run)
  have zero := cleared unfaulted
  exact ⟨zero, fun j hj => exec_trigger_of_zero ⟨unfaulted, idle⟩ hj zero⟩

end Sys2Proof.Machine
end

section
/-! PROOFS. The statements about RESET of 70_reset_and_hazards for the NAND variant: the sequence from every state, and
the state it leaves on the reference platform. -/

namespace Sys2Proof.Machine

/-! ## The sequence (R261) -/

theorem exec_reset_of_fits {s : State} (hb : s.cfg.bootSource = .nand) (h : bootFits s.cfg = true) :
    exec .reset s = .next (leaveReset (bootstrap (resetRegisters s))) := by
  change execReset s = _
  rw [execReset, hb]
  exact if_pos h

/-- The reset vector, slot 2 of the eleven, points past the header of the boot block (44_bootstrap R215). -/
theorem patchVectors_resetVector (c : Config) {m : Memory} (hw : m.wf) :
    (patchVectors c 11 m).readWord 0x7FF7 = BitVec.ofNat 16 ((imageByte c 0x15).toNat * 256 + 0x20) := by
  have slot : (patchVectors c 11 m).readWord (vectorSlot0 + 2) = vectorWord c 2 := patchVectors_word hw (by omega)
  refine slot.trans ?_
  rw [vectorWord, if_pos rfl, BitVec.ofNat_add, ← bootDestOf_toNat, BitVec.ofNat_toNat, BitVec.setWidth_eq]
  rfl

/-- The bootstrap places the same two memories before the reset of the registers as after it: it looks at neither the
registers nor the markers (44_bootstrap R218). -/
theorem bootstrap_resetRegisters (s : State) :
    bootstrap (resetRegisters s) = { resetRegisters s with
      iram := (bootstrap { s with irom := s.cfg.iromImage }).iram
      irom := (bootstrap { s with irom := s.cfg.iromImage }).irom } := by
  rw [bootstrap_iram, bootstrap_irom]
  exact bootstrap_eq (resetRegisters s)

/-- Settles O48: RESET is its register step, the bootstrap and the vector fetch. That both sides hold the same two
memories is all that matters of them, so the bootstrap is generalized before the fields are compared. -/
theorem resetRunsTheSequence : Obligations.ResetRunsTheSequence := by
  intro s hb hlow hhigh rom_wf
  have fits : bootFits s.cfg = true := (bootFits_iff s.cfg).mpr ⟨hlow, hhigh⟩
  refine ⟨bootstrap { s with irom := s.cfg.iromImage }, exec_bootstrapNand_of_fits fits, ?_⟩
  have vector : (bootstrap (resetRegisters s)).irom.readWord 0x7FF7 =
      BitVec.ofNat 16 ((imageByte s.cfg 0x15).toNat * 256 + 0x20) := by
    rw [bootstrap_irom]
    exact patchVectors_resetVector s.cfg rom_wf
  rw [exec_reset_of_fits hb fits, leaveReset, vector, bootstrap_resetRegisters]
  generalize bootstrap { s with irom := s.cfg.iromImage } = t
  rfl

/-! ## The reference platform (log 2) -/

/-- Every byte of the absent image is zero (44_bootstrap R217). -/
theorem imageByte_reset (n : Nat) : imageByte State.reset.cfg n = 0 := rfl

/-- The boot block of the absent image leaves the blank memory blank. -/
theorem copyBoot_reset_iram (base n : Nat) : copyBoot State.reset.cfg base n State.reset.iram = State.reset.iram := by
  induction n with
  | zero => rfl
  | succ n ih =>
    have zero : bootWord State.reset.cfg n = 0 := by
      rw [bootWord, imageByte_reset, imageByte_reset]
      rfl
    rw [copyBoot, ih, zero]
    rfl

/-- The eleven vectors on the blank ROM are the words `State.reset` lists. -/
theorem patchVectors_reset_irom : patchVectors State.reset.cfg 11 State.reset.cfg.iromImage = State.reset.irom := by
  decide

/-- Settles O51: the sequence of R261, whose two memories are those of `State.reset`. -/
theorem resetLeavesTheResetState : Obligations.ResetLeavesTheResetState := by
  have placed : bootstrap (resetRegisters State.reset) = State.reset := by
    rw [bootstrap_eq, resetRegisters_cfg, resetRegisters_iram, resetRegisters_irom, copyBoot_reset_iram,
      patchVectors_reset_irom]
    rfl
  have run := exec_reset_of_fits (s := State.reset) rfl (by decide)
  rw [placed] at run
  exact run

end Sys2Proof.Machine
end
